-- ==== Sys2Proof/Word.lean ====
section
/-! DEFINITION. The word types of the block (spec/00_scope.md R9: every value is a bit vector of a stated width). -/

namespace Sys2Proof

/-- One stream symbol, one byte (R5, R56). -/
abbrev Byte := BitVec 8

/-- A datapath element or a register word, 32 bits (R20, R33). -/
abbrev Word := BitVec 32

/-- The reset-pin word: the one bit `rst` (R73). -/
abbrev PinWord := BitVec 1

/-- The stream-port word S, s_valid at bit 9, s_end at bit 8, s_data at bits 7:0 (R71). -/
abbrev StreamWord := BitVec 10

/-- The host-port word H, h_sel at bit 37, h_we at bit 36, h_addr at bits 35:32, h_wdata at
bits 31:0 (R72). -/
abbrev HostWord := BitVec 38

/-- A register word address, 4 bits (R33). -/
abbrev RegAddr := BitVec 4

end Sys2Proof
end

