-- ==== Sys2Proof/Syntax.lean ====
section
/-! DEFINITION. The operations of the block (spec/30_encoding.md R81, one constructor of `Instr` per row of
spec/opcode_table.json), the port words of a step (R70 to R73), the serialized frame (R74) and the lines of
the event-trace notation (R86). -/

namespace Sys2Proof

/-- The operations, one constructor per row of spec/opcode_table.json, in the table's order. An operand
the spec says is ignored on a read or on `END` or a NOP is not kept; the data of an ignored write is kept, as the
table's canonical word carries it (log entry 11). -/
inductive Instr where
  /-- RST, the reset pin is 1 (R73, R220). -/
  | rst
  /-- S.NOP, no beat on the stream port (R71, R130). -/
  | sNop
  /-- PUSH d, a stream byte (R71, R132). -/
  | push (d : Byte)
  /-- END, the end-of-stream beat (R71, R139). -/
  | endStream
  /-- H.NOP, no access on the host port (R72, R170). -/
  | hNop
  /-- RD.CTRL, a read of word 0 (R171, R172). -/
  | rdCtrl
  /-- RD.CMD, a read of word 1 (R171, R173). -/
  | rdCmd
  /-- RD.STATUS, a read of word 2 (R171, R174). -/
  | rdStatus
  /-- RD.LEN, a read of word 3 (R171, R175). -/
  | rdLen
  /-- RD.TYPE, a read of word 4 (R171, R176). -/
  | rdType
  /-- RD.CRC_RX, a read of word 5 (R171, R177). -/
  | rdCrcRx
  /-- RD.CRC_CALC, a read of word 6 (R171, R178). -/
  | rdCrcCalc
  /-- RD.NFRAMES, a read of word 7 (R171, R179). -/
  | rdNframes
  /-- RD.CNT, a read of word 8 (R171, R179). -/
  | rdCnt
  /-- RD.RSVD9, a read of word 9 (R171, R180). -/
  | rdRsvd9
  /-- RD.RSVD10, a read of word 10 (R171, R180). -/
  | rdRsvd10
  /-- RD.RSVD11, a read of word 11 (R171, R180). -/
  | rdRsvd11
  /-- RD.RSVD12, a read of word 12 (R171, R180). -/
  | rdRsvd12
  /-- RD.RSVD13, a read of word 13 (R171, R180). -/
  | rdRsvd13
  /-- RD.RSVD14, a read of word 14 (R171, R180). -/
  | rdRsvd14
  /-- RD.RSVD15, a read of word 15 (R171, R180). -/
  | rdRsvd15
  /-- WR.CTRL, a write of word 0 (R181). -/
  | wrCtrl (v : Word)
  /-- WR.CMD, a write of word 1 (R182). -/
  | wrCmd (v : Word)
  /-- WR.IGN2, a write of word 2, ignored (R183). -/
  | wrIgn2 (v : Word)
  /-- WR.IGN3, a write of word 3, ignored (R183). -/
  | wrIgn3 (v : Word)
  /-- WR.IGN4, a write of word 4, ignored (R183). -/
  | wrIgn4 (v : Word)
  /-- WR.IGN5, a write of word 5, ignored (R183). -/
  | wrIgn5 (v : Word)
  /-- WR.IGN6, a write of word 6, ignored (R183). -/
  | wrIgn6 (v : Word)
  /-- WR.IGN7, a write of word 7, ignored (R183). -/
  | wrIgn7 (v : Word)
  /-- WR.IGN8, a write of word 8, ignored (R183). -/
  | wrIgn8 (v : Word)
  /-- WR.IGN9, a write of word 9, ignored (R183). -/
  | wrIgn9 (v : Word)
  /-- WR.IGN10, a write of word 10, ignored (R183). -/
  | wrIgn10 (v : Word)
  /-- WR.IGN11, a write of word 11, ignored (R183). -/
  | wrIgn11 (v : Word)
  /-- WR.IGN12, a write of word 12, ignored (R183). -/
  | wrIgn12 (v : Word)
  /-- WR.IGN13, a write of word 13, ignored (R183). -/
  | wrIgn13 (v : Word)
  /-- WR.IGN14, a write of word 14, ignored (R183). -/
  | wrIgn14 (v : Word)
  /-- WR.IGN15, a write of word 15, ignored (R183). -/
  | wrIgn15 (v : Word)
  deriving DecidableEq, Repr

/-- The three input ports of the block (R70): the reset pin, the stream port and the host port. -/
inductive Port where
  | pin
  | stream
  | host
  deriving DecidableEq, Repr

/-- The word one port presents in a step (R71, R72, R73). -/
inductive PortWord where
  | pin (w : PinWord)
  | stream (w : StreamWord)
  | host (w : HostWord)
  deriving DecidableEq, Repr

/-- Everything the environment presents in one step: the reset pin, the stream-port word S and the
host-port word H (R70 to R73). -/
structure StepInput where
  rst : Bool
  s : StreamWord
  h : HostWord
  deriving DecidableEq, Repr

/-- A frame before it is serialized: its four type bytes, the first in bits 31:24 (R76, R120), and its
payload bytes in stream order (R74). -/
structure Frame where
  typ : Word
  payload : List Byte
  deriving DecidableEq, Repr

/-- A line of the event-trace notation (R86): a reset step, a step with one event on each port, or a
pseudo-operation standing for consecutive `PUSH` steps. -/
inductive TraceLine where
  | rst
  | events (host stream : Instr)
  | bytes (bs : List Byte)
  | str (text : List Char)
  | be32 (n : Word)
  | magic
  | frame (text : List Char) (payload : List Byte)
  | frameX (text : List Char) (payload : List Byte) (checksum : Word)
  deriving DecidableEq, Repr

/-- Why raw bytes are not the word of an operation (log entry 5). -/
inductive DecodeError where
  /-- The number of bytes is that of no port word (1 for the pin, 2 for S, 5 for H). -/
  | notAPortWord (nBytes : Nat)
  /-- A bit above the port word's width (1, 10 or 38 bits) is set. -/
  | bitAboveWidth
  /-- The reset-pin word is 0: no operation of the table has it (R73). -/
  | resetPinLow
  deriving DecidableEq, Repr

end Sys2Proof
end

