-- ==== Sys2Proof/WellFormed.lean ====
section
/-! DEFINITION. Well-formedness. The operand types of `Instr` carry the widths of the encoding
(spec/30_encoding.md R71, R72), and the spec has no illegal or reserved operand of an operation (R82), so every
term of `Instr` is well-formed. What can be ill-formed is a frame to serialize (R74, R86) and a trace line (R86). -/

namespace Sys2Proof

/-- The port an operation is presented on (R71, R72, R73). -/
def Instr.port : Instr → Port
  | .rst => .pin
  | .sNop | .push _ | .endStream => .stream
  | .hNop
  | .rdCtrl | .rdCmd | .rdStatus | .rdLen | .rdType | .rdCrcRx | .rdCrcCalc | .rdNframes | .rdCnt
  | .rdRsvd9 | .rdRsvd10 | .rdRsvd11 | .rdRsvd12 | .rdRsvd13 | .rdRsvd14 | .rdRsvd15
  | .wrCtrl _ | .wrCmd _
  | .wrIgn2 _ | .wrIgn3 _ | .wrIgn4 _ | .wrIgn5 _ | .wrIgn6 _ | .wrIgn7 _ | .wrIgn8 _ | .wrIgn9 _
  | .wrIgn10 _ | .wrIgn11 _ | .wrIgn12 _ | .wrIgn13 _ | .wrIgn14 _ | .wrIgn15 _ => .host

/-- A payload a frame can carry: at most 2^32-1 bytes (R74, R86, U1). -/
def payloadFits (p : List Byte) : Bool := decide (p.length < 2 ^ 32)

/-- A frame that has a serialized form (R86, R87; longer payloads are out of contract, U1). -/
def Frame.wellFormed (f : Frame) : Bool := payloadFits f.payload

/-- A character with an ASCII code (R86; what a code above 127 would expand to is not said, log entry 12). -/
def isAscii (c : Char) : Bool := decide (c.toNat < 128)

/-- A type text of a trace line: four ASCII characters (R86, log entry 12). -/
def typeTextOk (text : List Char) : Bool := decide (text.length = 4) && text.all isAscii

/-- A trace line that has an expansion (R86): the joined events stand on their own ports, texts are ASCII,
a type text has four characters, a payload fits the length field. -/
def TraceLine.wellFormed : TraceLine → Bool
  | .rst => true
  | .events host stream => decide (host.port = .host) && decide (stream.port = .stream)
  | .bytes _ => true
  | .str text => text.all isAscii
  | .be32 _ => true
  | .magic => true
  | .frame text payload => typeTextOk text && payloadFits payload
  | .frameX text payload _ => typeTextOk text && payloadFits payload

end Sys2Proof
end

