-- ==== Sys2Proof/Decode.lean ====
section
/-! DEFINITION. Decoding and encoding of the operation words (spec/30_encoding.md R71, R72, R73; ignored bits
R82). The port words decode totally; raw bytes are refused by name where they are no port word (log entry 5). -/

namespace Sys2Proof

/-- The operation of a stream-port word (R71). Every 10-bit word decodes to exactly one operation. -/
def decodeStream (w : StreamWord) : Instr :=
  if w.getLsbD 9 then
    if w.getLsbD 8 then .endStream else .push (w.extractLsb' 0 8)
  else .sNop

/-- The read of a word address (R72, R33). -/
def decodeRead (a : RegAddr) : Instr :=
  match a.toNat with
  | 0 => .rdCtrl
  | 1 => .rdCmd
  | 2 => .rdStatus
  | 3 => .rdLen
  | 4 => .rdType
  | 5 => .rdCrcRx
  | 6 => .rdCrcCalc
  | 7 => .rdNframes
  | 8 => .rdCnt
  | 9 => .rdRsvd9
  | 10 => .rdRsvd10
  | 11 => .rdRsvd11
  | 12 => .rdRsvd12
  | 13 => .rdRsvd13
  | 14 => .rdRsvd14
  | _ => .rdRsvd15

/-- The write of a word address with its data (R72, R33). -/
def decodeWrite (a : RegAddr) (v : Word) : Instr :=
  match a.toNat with
  | 0 => .wrCtrl v
  | 1 => .wrCmd v
  | 2 => .wrIgn2 v
  | 3 => .wrIgn3 v
  | 4 => .wrIgn4 v
  | 5 => .wrIgn5 v
  | 6 => .wrIgn6 v
  | 7 => .wrIgn7 v
  | 8 => .wrIgn8 v
  | 9 => .wrIgn9 v
  | 10 => .wrIgn10 v
  | 11 => .wrIgn11 v
  | 12 => .wrIgn12 v
  | 13 => .wrIgn13 v
  | 14 => .wrIgn14 v
  | _ => .wrIgn15 v

/-- The operation of a host-port word (R72). Every 38-bit word decodes to exactly one operation. -/
def decodeHost (w : HostWord) : Instr :=
  if w.getLsbD 37 then
    if w.getLsbD 36 then decodeWrite (w.extractLsb' 32 4) (w.extractLsb' 0 32)
    else decodeRead (w.extractLsb' 32 4)
  else .hNop

/-- The operation of the reset-pin word (R73): 1 is `RST`, and 0 names no operation. -/
def decodePin (w : PinWord) : Except DecodeError Instr :=
  if w.getLsbD 0 then .ok .rst else .error .resetPinLow

/-- The operation of the word one port presents. -/
def decodePort : PortWord → Except DecodeError Instr
  | .pin w => decodePin w
  | .stream w => .ok (decodeStream w)
  | .host w => .ok (decodeHost w)

/-- The low `k` bytes of a number, the least significant first (the numbering of spec/opcode_table.json's bits). -/
def bytesLE : Nat → Nat → List Byte
  | 0, _ => []
  | k + 1, n => BitVec.ofNat 8 n :: bytesLE k (n / 256)

/-- The number whose bytes, the least significant first, are `bs`. -/
def natLE : List Byte → Nat
  | [] => 0
  | b :: bs => b.toNat + 256 * natLE bs

/-- The port word that raw bytes hold, least significant byte first: one byte is the reset-pin word, two
are S, five are H, and the bits above the word's width must be 0 (DESIGN CHOICE, log entry 5: the spec lays no
port word out in bytes). -/
def portWordOfBytes (bs : List Byte) : Except DecodeError PortWord :=
  match bs.length with
  | 1 => if natLE bs < 2 ^ 1 then .ok (.pin (BitVec.ofNat 1 (natLE bs))) else .error .bitAboveWidth
  | 2 => if natLE bs < 2 ^ 10 then .ok (.stream (BitVec.ofNat 10 (natLE bs))) else .error .bitAboveWidth
  | 5 => if natLE bs < 2 ^ 38 then .ok (.host (BitVec.ofNat 38 (natLE bs))) else .error .bitAboveWidth
  | n => .error (.notAPortWord n)

/-- The decoder of raw bytes: total, refusing by name. -/
def decodeBytes (bs : List Byte) : Except DecodeError Instr :=
  match portWordOfBytes bs with
  | .ok p => decodePort p
  | .error e => .error e

/-- The bytes of a row of spec/opcode_table.json whose bits are `w`, `nbits` counted up to whole bytes. -/
def tableBytes (nbits w : Nat) : List Byte := bytesLE ((nbits + 7) / 8) w

/-- The instruction the decoder reads from a word of spec/opcode_table.json's numbering. -/
def decodeTableWord (nbits w : Nat) : Option Instr :=
  match decodeBytes (tableBytes nbits w) with
  | .ok i => some i
  | .error _ => none

/-- The canonical host word of a read (R72): h_sel 1, h_we 0, the address, ignored data 0. -/
def readWord (a : RegAddr) : HostWord := 0b10#2 ++ a ++ 0#32

/-- The canonical host word of a write (R72): h_sel 1, h_we 1, the address, the data. -/
def writeWord (a : RegAddr) (v : Word) : HostWord := 0b11#2 ++ a ++ v

/-- The encoder: the canonical port word of an operation (R71, R72, R73). -/
def encode : Instr → PortWord
  | .rst => .pin 1#1
  | .sNop => .stream 0x000#10
  | .push d => .stream (0b10#2 ++ d)
  | .endStream => .stream 0x300#10
  | .hNop => .host 0#38
  | .rdCtrl => .host (readWord 0#4)
  | .rdCmd => .host (readWord 1#4)
  | .rdStatus => .host (readWord 2#4)
  | .rdLen => .host (readWord 3#4)
  | .rdType => .host (readWord 4#4)
  | .rdCrcRx => .host (readWord 5#4)
  | .rdCrcCalc => .host (readWord 6#4)
  | .rdNframes => .host (readWord 7#4)
  | .rdCnt => .host (readWord 8#4)
  | .rdRsvd9 => .host (readWord 9#4)
  | .rdRsvd10 => .host (readWord 10#4)
  | .rdRsvd11 => .host (readWord 11#4)
  | .rdRsvd12 => .host (readWord 12#4)
  | .rdRsvd13 => .host (readWord 13#4)
  | .rdRsvd14 => .host (readWord 14#4)
  | .rdRsvd15 => .host (readWord 15#4)
  | .wrCtrl v => .host (writeWord 0#4 v)
  | .wrCmd v => .host (writeWord 1#4 v)
  | .wrIgn2 v => .host (writeWord 2#4 v)
  | .wrIgn3 v => .host (writeWord 3#4 v)
  | .wrIgn4 v => .host (writeWord 4#4 v)
  | .wrIgn5 v => .host (writeWord 5#4 v)
  | .wrIgn6 v => .host (writeWord 6#4 v)
  | .wrIgn7 v => .host (writeWord 7#4 v)
  | .wrIgn8 v => .host (writeWord 8#4 v)
  | .wrIgn9 v => .host (writeWord 9#4 v)
  | .wrIgn10 v => .host (writeWord 10#4 v)
  | .wrIgn11 v => .host (writeWord 11#4 v)
  | .wrIgn12 v => .host (writeWord 12#4 v)
  | .wrIgn13 v => .host (writeWord 13#4 v)
  | .wrIgn14 v => .host (writeWord 14#4 v)
  | .wrIgn15 v => .host (writeWord 15#4 v)

/-- A port word as raw bytes, the inverse of `portWordOfBytes`. -/
def PortWord.bytes : PortWord → List Byte
  | .pin w => bytesLE 1 w.toNat
  | .stream w => bytesLE 2 w.toNat
  | .host w => bytesLE 5 w.toNat

/-- The port of a port word. -/
def PortWord.port : PortWord → Port
  | .pin _ => .pin
  | .stream _ => .stream
  | .host _ => .host

/-- The step in which one port presents the word and the other ports are idle: `rst` 0, `S.NOP`, `H.NOP`
(R71, R72, R73; the "port with no event carries 0" of spec/95_test_vectors.md). -/
def PortWord.alone : PortWord → StepInput
  | .pin w => ⟨w.getLsbD 0, 0#10, 0#38⟩
  | .stream w => ⟨false, w, 0#38⟩
  | .host w => ⟨false, 0#10, w⟩

/-- A row of spec/opcode_table.json: the port and its match and mask. -/
structure OpRow where
  port : Port
  mtch : Nat
  mask : Nat
  deriving DecidableEq, Repr

/-- The row of an operation, match and mask as spec/opcode_table.json writes them (R71, R72, R73). -/
def opRow : Instr → OpRow
  | .rst => ⟨.pin, 0x1, 0x1⟩
  | .sNop => ⟨.stream, 0x000, 0x200⟩
  | .push _ => ⟨.stream, 0x200, 0x300⟩
  | .endStream => ⟨.stream, 0x300, 0x300⟩
  | .hNop => ⟨.host, 0x0000000000, 0x2000000000⟩
  | .rdCtrl => ⟨.host, 0x2000000000, 0x3F00000000⟩
  | .rdCmd => ⟨.host, 0x2100000000, 0x3F00000000⟩
  | .rdStatus => ⟨.host, 0x2200000000, 0x3F00000000⟩
  | .rdLen => ⟨.host, 0x2300000000, 0x3F00000000⟩
  | .rdType => ⟨.host, 0x2400000000, 0x3F00000000⟩
  | .rdCrcRx => ⟨.host, 0x2500000000, 0x3F00000000⟩
  | .rdCrcCalc => ⟨.host, 0x2600000000, 0x3F00000000⟩
  | .rdNframes => ⟨.host, 0x2700000000, 0x3F00000000⟩
  | .rdCnt => ⟨.host, 0x2800000000, 0x3F00000000⟩
  | .rdRsvd9 => ⟨.host, 0x2900000000, 0x3F00000000⟩
  | .rdRsvd10 => ⟨.host, 0x2A00000000, 0x3F00000000⟩
  | .rdRsvd11 => ⟨.host, 0x2B00000000, 0x3F00000000⟩
  | .rdRsvd12 => ⟨.host, 0x2C00000000, 0x3F00000000⟩
  | .rdRsvd13 => ⟨.host, 0x2D00000000, 0x3F00000000⟩
  | .rdRsvd14 => ⟨.host, 0x2E00000000, 0x3F00000000⟩
  | .rdRsvd15 => ⟨.host, 0x2F00000000, 0x3F00000000⟩
  | .wrCtrl _ => ⟨.host, 0x3000000000, 0x3F00000000⟩
  | .wrCmd _ => ⟨.host, 0x3100000000, 0x3F00000000⟩
  | .wrIgn2 _ => ⟨.host, 0x3200000000, 0x3F00000000⟩
  | .wrIgn3 _ => ⟨.host, 0x3300000000, 0x3F00000000⟩
  | .wrIgn4 _ => ⟨.host, 0x3400000000, 0x3F00000000⟩
  | .wrIgn5 _ => ⟨.host, 0x3500000000, 0x3F00000000⟩
  | .wrIgn6 _ => ⟨.host, 0x3600000000, 0x3F00000000⟩
  | .wrIgn7 _ => ⟨.host, 0x3700000000, 0x3F00000000⟩
  | .wrIgn8 _ => ⟨.host, 0x3800000000, 0x3F00000000⟩
  | .wrIgn9 _ => ⟨.host, 0x3900000000, 0x3F00000000⟩
  | .wrIgn10 _ => ⟨.host, 0x3A00000000, 0x3F00000000⟩
  | .wrIgn11 _ => ⟨.host, 0x3B00000000, 0x3F00000000⟩
  | .wrIgn12 _ => ⟨.host, 0x3C00000000, 0x3F00000000⟩
  | .wrIgn13 _ => ⟨.host, 0x3D00000000, 0x3F00000000⟩
  | .wrIgn14 _ => ⟨.host, 0x3E00000000, 0x3F00000000⟩
  | .wrIgn15 _ => ⟨.host, 0x3F00000000, 0x3F00000000⟩

/-- The value of a port word as a number, bit 0 its least significant bit. -/
def PortWord.value : PortWord → Nat
  | .pin w => w.toNat
  | .stream w => w.toNat
  | .host w => w.toNat

/-- Whether a port word lies in a row of the table: the same port, and the masked bits equal the match. -/
def OpRow.holds (r : OpRow) (p : PortWord) : Bool :=
  decide (p.port = r.port) && decide (p.value &&& r.mask = r.mtch)

/-- One operation of each row, in the order of spec/opcode_table.json. -/
def rowInstrs : List Instr :=
  [.rst, .sNop, .push 0, .endStream, .hNop,
   .rdCtrl, .rdCmd, .rdStatus, .rdLen, .rdType, .rdCrcRx, .rdCrcCalc, .rdNframes, .rdCnt, .rdRsvd9, .rdRsvd10, .rdRsvd11, .rdRsvd12, .rdRsvd13, .rdRsvd14, .rdRsvd15,
   .wrCtrl 0, .wrCmd 0, .wrIgn2 0, .wrIgn3 0, .wrIgn4 0, .wrIgn5 0, .wrIgn6 0, .wrIgn7 0, .wrIgn8 0, .wrIgn9 0, .wrIgn10 0, .wrIgn11 0, .wrIgn12 0, .wrIgn13 0, .wrIgn14 0, .wrIgn15 0]

/-- The operation table, 37 rows (R72: "that makes 37 rows"). -/
def opTable : List OpRow := rowInstrs.map opRow

end Sys2Proof
end

