-- ==== Sys2Proof/Config.lean ====
section
/-! DEFINITION. Constants of the step function (spec/00_scope.md R5, R8), the two open parameters of
spec/92_eei_decisions.md, and the one free value of the model. -/

namespace Sys2Proof.Config

/-- The CRC-32 polynomial in reflected form (R5, R100). -/
def crcPoly : Word := 0xEDB88320#32

/-- The preset of the CRC register (R5, R100; PRESUMED, log entry 9: the spec marks the value as general
knowledge and its decision D12). -/
def crcPreset : Word := 0xFFFFFFFF#32

/-- The final XOR of the CRC (R5, R100; PRESUMED, log entry 9). -/
def crcFinalXor : Word := 0xFFFFFFFF#32

/-- The property bit of a type byte, weight 0x20 (R5, R121; conflict C1). -/
def typeBit : Byte := 0x20#8

/-- The eight bytes of the magic preamble (R5, R79). -/
def magic : List Byte :=
  [0x89#8, 0x50#8, 0x4E#8, 0x47#8, 0x0D#8, 0x0A#8, 0x1A#8, 0x0A#8]

/-- `MAGIC[i]` for an index above 7, which the spec does not define and which no reachable state reads
(R22, R41 item 2). A free value: it has no body, so nothing can be proved of it. Log entry 6. -/
opaque magicBeyond : Nat → Byte

/-- The open parameter P_CLK_HZ, the clock frequency (U12). No definition reads it. Log entry 7. -/
opaque clkHz : Nat

/-- The open parameter P_IRQ_WIRING: whether `o_err`, `o_frm`, `o_eos` are wired to an interrupt
controller outside the block (U12, R201). No definition reads it. Log entry 7. -/
opaque irqWiring : Bool × Bool × Bool

end Sys2Proof.Config
end

