-- ==== Sys2Proof/Machine/Flags.lean ====
section
/-! DEFINITION. The type field's predicates (spec/41_typetag.md R120 to R127): pure functions of 32 bits, which
STATUS and `o_tflags` show and the frame verdict reads. -/

namespace Sys2Proof.Machine

/-- The type byte that arrived first (R120). -/
def byte0 (t : Word) : Byte := t.extractLsb' 24 8

/-- The second type byte (R120). -/
def byte1 (t : Word) : Byte := t.extractLsb' 16 8

/-- The third type byte (R120). -/
def byte2 (t : Word) : Byte := t.extractLsb' 8 8

/-- The type byte that arrived last (R120). -/
def byte3 (t : Word) : Byte := t.extractLsb' 0 8

/-- CRIT: the property bit of byte 0 is clear (R122). -/
def critical (t : Word) : Bool := byte0 t &&& Config.typeBit == 0#8

/-- PUB: the property bit of byte 1 is clear (R123). -/
def isPublic (t : Word) : Bool := byte1 t &&& Config.typeBit == 0#8

/-- RSVOK: the property bit of byte 2 is clear (R124). -/
def rsvok (t : Word) : Bool := byte2 t &&& Config.typeBit == 0#8

/-- SAFE: the property bit of byte 3 is SET (R125). -/
def safe (t : Word) : Bool := byte3 t &&& Config.typeBit != 0#8

/-- TASCII: each of the four bytes is in 0x00..0x7F (R126). -/
def tascii (t : Word) : Bool := !t.getLsbD 31 && !t.getLsbD 23 && !t.getLsbD 15 && !t.getLsbD 7

/-- TVALID: the validity the frame verdict applies, ASCII and reserved bit clear, no letter test (R127, R128). -/
def tvalid (t : Word) : Bool := tascii t && rsvok t

/-- The flags bus, TVALID at bit 5 down to CRIT at bit 0 (R70 `o_tflags`). -/
def tflags (t : Word) : BitVec 6 :=
  BitVec.ofBool (tvalid t) ++ BitVec.ofBool (tascii t) ++ BitVec.ofBool (safe t) ++
    BitVec.ofBool (rsvok t) ++ BitVec.ofBool (isPublic t) ++ BitVec.ofBool (critical t)

end Sys2Proof.Machine
end

