-- ==== Sys2Proof/Machine/Crc.lean ====
section
/-! DEFINITION. The CRC-32 functions (spec/40_crc32.md R100 to R103). They read and write no state. -/

namespace Sys2Proof.Machine

/-- One of the eight rounds of the byte update (R101): shift right, XOR the polynomial if bit 0 was 1. -/
def crcBit (c : Word) : Word :=
  if c.getLsbD 0 then (c >>> 1) ^^^ Config.crcPoly else c >>> 1

/-- `k` rounds. -/
def crcBits : Nat → Word → Word
  | 0, c => c
  | k + 1, c => crcBits k (crcBit c)

/-- The byte update `crc_upd(c, d)` (R101). -/
def crcUpd (c : Word) (d : Byte) : Word := crcBits 8 (c ^^^ d.setWidth 32)

/-- `crc_upd` over a list of bytes in stream order. -/
def crcFeed (c : Word) (bs : List Byte) : Word := bs.foldl crcUpd c

/-- The value the block shows for a CRC register: the final XOR (R27, R103). -/
def crcShown (c : Word) : Word := c ^^^ Config.crcFinalXor

/-- The CRC-32 of a byte list (R102). -/
def crc32 (bs : List Byte) : Word := crcShown (crcFeed Config.crcPreset bs)

/-- One round of the same update in the normal form: most significant bit first, polynomial 0x04C11DB7 (R100, general
knowledge G1). The block does not use it; a claim relates it to `crcBit`. -/
def normalBit (c : Word) : Word :=
  if c.getLsbD 31 then (c <<< 1) ^^^ 0x04C11DB7#32 else c <<< 1

/-- `k` rounds of the normal form. -/
def normalBits : Nat → Word → Word
  | 0, c => c
  | k + 1, c => normalBits k (normalBit c)

end Sys2Proof.Machine
end

