-- ==== Sys2Proof/Machine/State.lean ====
section
/-! DEFINITION. The state of CRCFD: the twelve elements of spec/10_state.md R20, the output ports as the last
step drove them, and the port words of the coming steps. -/

namespace Sys2Proof.Machine

/-- The sequencing state (R22). All eight codes of the 3-bit element `phase` are used. -/
inductive Phase where
  | idle
  | raw
  | magic
  | len
  | typ
  | pay
  | crcf
  | drain
  deriving DecidableEq, Repr

/-- The errors the block raises (R190). -/
inductive ErrorKind where
  | tooShort
  | badMagic
  | invalidType
  | checksumMismatch
  deriving DecidableEq, Repr

/-- The output events (R80, R141): `e` is an error code, `computed` the computed CRC-32 (`calc` in the spec), `crcRx` the received
checksum (the names "expected" and "actual" are not used: U3, D34). -/
inductive OutEvent where
  | hdr (len typ : Word)
  | pay (d : Byte)
  | frm (e : BitVec 3) (len typ crcRx computed : Word)
  | eos (e : BitVec 3) (nfr computed : Word)
  deriving DecidableEq, Repr

/-- The state. The first twelve fields are the architectural state of R20, all of it. The last three are the
model's own (R8 calls inputs and output events "not state"): log entries 1 and 3. -/
structure State where
  /-- `ctrl_parse`: 0 raw CRC, 1 parse (R20, R21). -/
  ctrlParse : Bool
  /-- `ctrl_hdr`: in parse mode, a stream opens with the magic preamble (R20, R21). -/
  ctrlHdr : Bool
  /-- `phase`: the sequencing state (R20, R22). -/
  phase : Phase
  /-- `cnt`: the byte counter inside the phase (R20, R23). -/
  cnt : Word
  /-- `len`: the length field as assembled so far (R20, R24). -/
  len : Word
  /-- `typ`: the type field as assembled so far (R20, R25). -/
  typ : Word
  /-- `crc_rx`: the checksum field as assembled so far (R20, R26). -/
  crcRx : Word
  /-- `crc`: the CRC working register, before the final XOR (R20, R27). -/
  crc : Word
  /-- `nfr`: the good frames of the current or last stream (R20, R28). -/
  nfr : Word
  /-- `err`: the error code of the current or last stream (R20, R29). -/
  err : BitVec 3
  /-- `done`: a stream has ended and no new one has begun (R20, R30). -/
  done : Bool
  /-- `mbad`: a preamble byte mismatched (R20, R31). -/
  mbad : Bool
  /-- What the last step drove on `h_rdata` (R70). The model's own field, log entry 3. -/
  hRdata : Word
  /-- The output events the last step emitted (R70, R80, R141). The model's own field, log entry 3. -/
  events : List OutEvent
  /-- The port words of the coming steps, oldest first. The model's own field, log entry 1. -/
  inputs : List StepInput
  deriving DecidableEq, Repr

/-- Why the machine stops with a fault. There is no constructor: the block never stalls, refuses no event and has
no stuck state (R7), nothing traps in the operation encodings (R82), and the parse errors are taken, not a stop
(R197). Log entry 14. -/
inductive Fault where
  deriving DecidableEq, Repr

/-- Why the model gives an operation no meaning. -/
inductive Refusal where
  /-- Raised by an arm of `exec` whose operation has no meaning yet; safe, since no next state is claimed. No arm
  raises it: every operation of the table has its meaning. -/
  | notModelled (mnemonic : String)
  deriving DecidableEq, Repr

/-- The machine right after reset: every element 0 except `crc`, which is 0xFFFFFFFF (R20, R40, R220); `h_rdata` 0
and no output event (R220); no input recorded (log entry 1). -/
def State.reset : State where
  ctrlParse := false
  ctrlHdr := false
  phase := .idle
  cnt := 0#32
  len := 0#32
  typ := 0#32
  crcRx := 0#32
  crc := Config.crcPreset
  nfr := 0#32
  err := 0#3
  done := false
  mbad := false
  hRdata := 0#32
  events := []
  inputs := []

end Sys2Proof.Machine
end

