-- ==== Sys2Proof/Machine/Ops.lean ====
section
/-! DEFINITION. The operations the meanings share: codes, field assembly, writes of state elements, output ports,
stream start, taking an error and leaving it, the input of a step. -/

namespace Sys2Proof.Machine

/-- The 3-bit code of a phase (R22). -/
def phaseCode : Phase → BitVec 3
  | .idle => 0#3
  | .raw => 1#3
  | .magic => 2#3
  | .len => 3#3
  | .typ => 4#3
  | .pay => 5#3
  | .crcf => 6#3
  | .drain => 7#3

/-- `code(E)`, the value `raise E` writes to `err` (R190). -/
def errorCode : ErrorKind → BitVec 3
  | .tooShort => 1#3
  | .badMagic => 2#3
  | .invalidType => 3#3
  | .checksumMismatch => 4#3

/-- Assembly of a big-endian field: the old content shifts left by 8 and the byte enters at bits 7:0 (R76). -/
def shiftIn (r : Word) (d : Byte) : Word := (r <<< 8) ||| d.setWidth 32

/-- `MAGIC[i]` (R79); above 7 the free value of `Config` (log entry 6). -/
def magicByte (i : Word) : Byte :=
  match Config.magic[i.toNat]? with
  | some b => b
  | none => Config.magicBeyond i.toNat

/-- The computed CRC-32 the host and the events see (R27, R37). -/
def calcOf (s : State) : Word := crcShown s.crc

/-- `busy` (R32). -/
def busy (s : State) : Bool := s.phase != .idle

/-! ### Writes of state elements -/

/-- `phase <- p ; cnt <- c` (R10). -/
def goTo (p : Phase) (c : Word) (s : State) : State := { s with phase := p, cnt := c }

/-- A byte enters `len` (R24). -/
def shiftLen (d : Byte) (s : State) : State := { s with len := shiftIn s.len d }

/-- A byte enters `typ` (R25). -/
def shiftTyp (d : Byte) (s : State) : State := { s with typ := shiftIn s.typ d }

/-- A byte enters `crc_rx` (R26). -/
def shiftCrcRx (d : Byte) (s : State) : State := { s with crcRx := shiftIn s.crcRx d }

/-- `crc <- crc_upd(crc, d)` (R27). -/
def feedCrc (d : Byte) (s : State) : State := { s with crc := crcUpd s.crc d }

/-- `crc <- 0xFFFFFFFF` (R27). -/
def presetCrc (s : State) : State := { s with crc := Config.crcPreset }

/-- `nfr <- nfr + 1`, modulo 2^32 (R28). -/
def countFrame (s : State) : State := { s with nfr := s.nfr + 1#32 }

/-- `mbad <- 1` when the condition holds (R31, R133). -/
def noteMismatch (c : Bool) (s : State) : State := { s with mbad := s.mbad || c }

/-! ### Output ports -/

/-- The stream side drives no strobe yet in this step (R70, R141). -/
def quietStream (s : State) : State := { s with events := [] }

/-- `emit EV` (R10): the event is appended to this step's output list. -/
def emit (e : OutEvent) (s : State) : State := { s with events := s.events ++ [e] }

/-- The host side drives `h_rdata` (R70). -/
def driveRdata (v : Word) (s : State) : State := { s with hRdata := v }

/-! ### Stream start -/

/-- The phase a stream starts in: RAW, MAGIC or LEN by the CTRL bits (R131, R21). -/
def startPhase (s : State) : Phase :=
  if s.ctrlParse = false then .raw else if s.ctrlHdr = true then .magic else .len

/-- What `crc` holds when a stream starts: the preset in raw mode, unchanged in parse mode (R131). -/
def startCrc (s : State) : Word := if s.ctrlParse = false then Config.crcPreset else s.crc

/-- `start_stream` (R131): the only place where a beat reads `ctrl_parse` and `ctrl_hdr`. -/
def startStream (s : State) : State :=
  { s with
    done := false, err := 0#3, nfr := 0#32, mbad := false, cnt := 0#32
    phase := startPhase s, crc := startCrc s }

/-- A beat accepted in phase IDLE starts a stream first (R131, R132, R139). -/
def startIfIdle (s : State) : State := if s.phase = .idle then startStream s else s

/-! ### Taking an error and leaving it -/

/-- `raise E` (R10, R190). -/
def raiseError (e : ErrorKind) (s : State) : State := { s with err := errorCode e }

/-- What taking BadMagic, InvalidType or ChecksumMismatch does: the code is latched, the phase goes to DRAIN and `cnt`
to 0; nothing is saved and nothing is vectored (R197). -/
def takeError (e : ErrorKind) (s : State) : State := goTo .drain 0#32 (raiseError e s)

/-- The `EOS` event of a state (R141): `err`, `nfr` and the computed CRC. -/
def eosOf (s : State) : OutEvent := .eos s.err s.nfr (calcOf s)

/-- The `FRM` event of a state (R141). -/
def frmOf (s : State) : OutEvent := .frm s.err s.len s.typ s.crcRx (calcOf s)

/-- The end of a stream (R140, R105), which is also the return from DRAIN (R199): `phase <- IDLE ; cnt <- 0 ;
done <- 1`, then `EOS`. -/
def endStreamNow (s : State) : State :=
  let s1 := { s with phase := .idle, cnt := 0#32, done := true }
  emit (eosOf s1) s1

/-- The CLR command (R182): the reset value of every element but the two CTRL bits. -/
def clearStream (s : State) : State :=
  { s with
    phase := .idle, cnt := 0#32, len := 0#32, typ := 0#32, crcRx := 0#32, crc := Config.crcPreset
    nfr := 0#32, err := 0#3, done := false, mbad := false }

/-- A reset step (R220): every element takes its reset value, `h_rdata` is 0, no output event is emitted. What the
environment presents in later steps is not the block's. -/
def resetAll (s : State) : State := { State.reset with inputs := s.inputs }

/-! ### The input of a step -/

/-- The port words of an idle step: `rst` 0, `S.NOP`, `H.NOP` (R71, R72). -/
def idleInput : StepInput := ⟨false, 0#10, 0#38⟩

/-- The port words of the next step: the oldest recorded, and idle ports when none is recorded (DESIGN CHOICE, log
entry 2). -/
def nextInput (s : State) : StepInput := s.inputs.headD idleInput

/-- The recorded port words after the next step has taken its own. -/
def dropInput (s : State) : State := { s with inputs := s.inputs.tail }

/-- The environment presents these port words in the next step, before those already recorded. -/
def presentInput (p : StepInput) (s : State) : State := { s with inputs := p :: s.inputs }

/-- Both output sides idle: what a step without an access and without a beat drives (R70). -/
def quietPorts (s : State) : State := { s with hRdata := 0#32, events := [] }

/-- The second event of a step acts on the state the first one left (R59). -/
def andThen (o : Host.Outcome State Fault Refusal)
    (k : State → Host.Outcome State Fault Refusal) : Host.Outcome State Fault Refusal :=
  match o with
  | .next s => k s
  | .fault r => .fault r
  | .refused r => .refused r

end Sys2Proof.Machine
end

