-- ==== Sys2Proof/Machine/Operands.lean ====
section
/-! DEFINITION. The operands of the host port: the register words a read returns (spec/43_host_port.md R171 to R180)
and what a write of a word does (R181 to R183). -/

namespace Sys2Proof.Machine

/-- A bit as a 32-bit value, `zext_32` (R9). -/
def zextBit (b : Bool) : Word := (BitVec.ofBool b).setWidth 32

/-- CTRL as read (R172). -/
def ctrlWord (s : State) : Word := zextBit s.ctrlParse ||| (zextBit s.ctrlHdr <<< 1)

/-- STATUS as read (R174, layout R36). -/
def statusWord (s : State) : Word :=
  zextBit (busy s) |||
  (zextBit s.done <<< 1) |||
  (zextBit s.mbad <<< 2) |||
  (s.err.setWidth 32 <<< 4) |||
  ((phaseCode s.phase).setWidth 32 <<< 8) |||
  (zextBit (critical s.typ) <<< 16) |||
  (zextBit (isPublic s.typ) <<< 17) |||
  (zextBit (rsvok s.typ) <<< 18) |||
  (zextBit (safe s.typ) <<< 19) |||
  (zextBit (tascii s.typ) <<< 20) |||
  (zextBit (tvalid s.typ) <<< 21)

/-- `RegRead(a)` (R171, by address R172 to R180; the map is R33). -/
def regRead (a : RegAddr) (s : State) : Word :=
  match a.toNat with
  | 0 => ctrlWord s
  | 1 => 0#32
  | 2 => statusWord s
  | 3 => s.len
  | 4 => s.typ
  | 5 => s.crcRx
  | 6 => calcOf s
  | 7 => s.nfr
  | 8 => s.cnt
  | _ => 0#32

/-- CTRL.PARSE of the written data (R34). -/
def parseBit (v : Word) : Bool := v.getLsbD 0

/-- CTRL.HDR of the written data (R34). -/
def hdrBit (v : Word) : Bool := v.getLsbD 1

/-- CMD.CLR of the written data (R35). -/
def clrBit (v : Word) : Bool := v.getLsbD 0

/-- A write of CTRL: taken only while the block is idle, otherwise ignored completely (R181). -/
def writeCtrl (v : Word) (s : State) : State :=
  if s.phase = .idle then { s with ctrlParse := parseBit v, ctrlHdr := hdrBit v } else s

/-- A write of CMD: CLR when bit 0 is 1, otherwise nothing (R182). -/
def writeCmd (v : Word) (s : State) : State := if clrBit v then clearStream s else s

/-- `RegWrite(a, v)` (R10, R181 to R183): CTRL, CMD, and every other word ignored. -/
def regWrite (a : RegAddr) (v : Word) (s : State) : State :=
  match a.toNat with
  | 0 => writeCtrl v s
  | 1 => writeCmd v s
  | _ => s

/-- A read access: `h_rdata <- RegRead(a)`, no state element changes (R171). -/
def readAccess (a : RegAddr) (s : State) : State := driveRdata (regRead a s) s

/-- A write access: `RegWrite(a, v)`, and `h_rdata` is 0 as in every step without a read (R70). -/
def writeAccess (a : RegAddr) (v : Word) (s : State) : State := driveRdata 0#32 (regWrite a v s)

end Sys2Proof.Machine
end

