-- ==== Sys2Proof/Machine/HostRead.lean ====
section
/-! DEFINITION. The host port without an access, and the reads (spec/43_host_port.md R170 to R180). -/

namespace Sys2Proof.Machine

/-- H.NOP (R170): no state change, `h_rdata` is 0. -/
def execHNop (s : State) : Host.Outcome State Fault Refusal := .next (driveRdata 0#32 s)

/-- RD.CTRL (R171, R172). -/
def execRdCtrl (s : State) : Host.Outcome State Fault Refusal := .next (readAccess 0#4 s)

/-- RD.CMD (R171, R173). -/
def execRdCmd (s : State) : Host.Outcome State Fault Refusal := .next (readAccess 1#4 s)

/-- RD.STATUS (R171, R174). -/
def execRdStatus (s : State) : Host.Outcome State Fault Refusal := .next (readAccess 2#4 s)

/-- RD.LEN (R171, R175). -/
def execRdLen (s : State) : Host.Outcome State Fault Refusal := .next (readAccess 3#4 s)

/-- RD.TYPE (R171, R176). -/
def execRdType (s : State) : Host.Outcome State Fault Refusal := .next (readAccess 4#4 s)

/-- RD.CRC_RX (R171, R177). -/
def execRdCrcRx (s : State) : Host.Outcome State Fault Refusal := .next (readAccess 5#4 s)

/-- RD.CRC_CALC (R171, R178). -/
def execRdCrcCalc (s : State) : Host.Outcome State Fault Refusal := .next (readAccess 6#4 s)

/-- RD.NFRAMES (R171, R179). -/
def execRdNframes (s : State) : Host.Outcome State Fault Refusal := .next (readAccess 7#4 s)

/-- RD.CNT (R171, R179). -/
def execRdCnt (s : State) : Host.Outcome State Fault Refusal := .next (readAccess 8#4 s)

/-- RD.RSVD9 (R171, R180). -/
def execRdRsvd9 (s : State) : Host.Outcome State Fault Refusal := .next (readAccess 9#4 s)

/-- RD.RSVD10 (R171, R180). -/
def execRdRsvd10 (s : State) : Host.Outcome State Fault Refusal := .next (readAccess 10#4 s)

/-- RD.RSVD11 (R171, R180). -/
def execRdRsvd11 (s : State) : Host.Outcome State Fault Refusal := .next (readAccess 11#4 s)

/-- RD.RSVD12 (R171, R180). -/
def execRdRsvd12 (s : State) : Host.Outcome State Fault Refusal := .next (readAccess 12#4 s)

/-- RD.RSVD13 (R171, R180). -/
def execRdRsvd13 (s : State) : Host.Outcome State Fault Refusal := .next (readAccess 13#4 s)

/-- RD.RSVD14 (R171, R180). -/
def execRdRsvd14 (s : State) : Host.Outcome State Fault Refusal := .next (readAccess 14#4 s)

/-- RD.RSVD15 (R171, R180). -/
def execRdRsvd15 (s : State) : Host.Outcome State Fault Refusal := .next (readAccess 15#4 s)

end Sys2Proof.Machine
end

