-- ==== Sys2Proof/Machine/HostWrite.lean ====
section
/-! DEFINITION. The writes of the host port (spec/43_host_port.md R181 to R183). -/

namespace Sys2Proof.Machine

/-- WR.CTRL (R181). -/
def execWrCtrl (v : Word) (s : State) : Host.Outcome State Fault Refusal := .next (writeAccess 0#4 v s)

/-- WR.CMD (R182). -/
def execWrCmd (v : Word) (s : State) : Host.Outcome State Fault Refusal := .next (writeAccess 1#4 v s)

/-- WR.IGN2 (R183): a write of STATUS is ignored. -/
def execWrIgn2 (v : Word) (s : State) : Host.Outcome State Fault Refusal := .next (writeAccess 2#4 v s)

/-- WR.IGN3 (R183): a write of LEN is ignored. -/
def execWrIgn3 (v : Word) (s : State) : Host.Outcome State Fault Refusal := .next (writeAccess 3#4 v s)

/-- WR.IGN4 (R183): a write of TYPE is ignored. -/
def execWrIgn4 (v : Word) (s : State) : Host.Outcome State Fault Refusal := .next (writeAccess 4#4 v s)

/-- WR.IGN5 (R183): a write of CRC_RX is ignored. -/
def execWrIgn5 (v : Word) (s : State) : Host.Outcome State Fault Refusal := .next (writeAccess 5#4 v s)

/-- WR.IGN6 (R183): a write of CRC_CALC is ignored. -/
def execWrIgn6 (v : Word) (s : State) : Host.Outcome State Fault Refusal := .next (writeAccess 6#4 v s)

/-- WR.IGN7 (R183): a write of NFRAMES is ignored. -/
def execWrIgn7 (v : Word) (s : State) : Host.Outcome State Fault Refusal := .next (writeAccess 7#4 v s)

/-- WR.IGN8 (R183): a write of CNT is ignored. -/
def execWrIgn8 (v : Word) (s : State) : Host.Outcome State Fault Refusal := .next (writeAccess 8#4 v s)

/-- WR.IGN9 (R183): a write of reserved word 9 is ignored. -/
def execWrIgn9 (v : Word) (s : State) : Host.Outcome State Fault Refusal := .next (writeAccess 9#4 v s)

/-- WR.IGN10 (R183): a write of reserved word 10 is ignored. -/
def execWrIgn10 (v : Word) (s : State) : Host.Outcome State Fault Refusal := .next (writeAccess 10#4 v s)

/-- WR.IGN11 (R183): a write of reserved word 11 is ignored. -/
def execWrIgn11 (v : Word) (s : State) : Host.Outcome State Fault Refusal := .next (writeAccess 11#4 v s)

/-- WR.IGN12 (R183): a write of reserved word 12 is ignored. -/
def execWrIgn12 (v : Word) (s : State) : Host.Outcome State Fault Refusal := .next (writeAccess 12#4 v s)

/-- WR.IGN13 (R183): a write of reserved word 13 is ignored. -/
def execWrIgn13 (v : Word) (s : State) : Host.Outcome State Fault Refusal := .next (writeAccess 13#4 v s)

/-- WR.IGN14 (R183): a write of reserved word 14 is ignored. -/
def execWrIgn14 (v : Word) (s : State) : Host.Outcome State Fault Refusal := .next (writeAccess 14#4 v s)

/-- WR.IGN15 (R183): a write of reserved word 15 is ignored. -/
def execWrIgn15 (v : Word) (s : State) : Host.Outcome State Fault Refusal := .next (writeAccess 15#4 v s)

end Sys2Proof.Machine
end

