-- ==== Sys2Proof/Machine/Reset.lean ====
section
/-! DEFINITION. The reset pin's operation. -/

namespace Sys2Proof.Machine

/-- RST (spec/70_reset_and_hazards.md R220). -/
def execRst (s : State) : Host.Outcome State Fault Refusal := .next (resetAll s)

end Sys2Proof.Machine
end

