-- ==== Sys2Proof/Machine/Stream.lean ====
section
/-! DEFINITION. The stream-port operations S.NOP, PUSH and END in every phase (spec/42_deserializer.md R130 to R141,
raw mode spec/40_crc32.md R104, R105). -/

namespace Sys2Proof.Machine

/-! ### PUSH, by phase -/

/-- PUSH in phase RAW (R104). -/
def pushRaw (d : Byte) (s : State) : State := feedCrc d s

/-- PUSH in phase MAGIC (R133). The test of `mbad` sees the mismatch of this very byte. -/
def pushMagic (d : Byte) (s : State) : State :=
  let s1 := noteMismatch (d != magicByte s.cnt) s
  if s1.cnt = 7#32 then
    if s1.mbad then takeError .badMagic s1 else goTo .len 0#32 s1
  else goTo s1.phase (s1.cnt + 1#32) s1

/-- PUSH in phase LEN (R134). -/
def pushLen (d : Byte) (s : State) : State :=
  let s1 := shiftLen d s
  if s1.cnt = 3#32 then presetCrc (goTo .typ 0#32 s1)
  else goTo s1.phase (s1.cnt + 1#32) s1

/-- PUSH in phase TYPE (R135). `HDR` carries the completed type, valid or not. -/
def pushTyp (d : Byte) (s : State) : State :=
  let s1 := feedCrc d (shiftTyp d s)
  if s1.cnt = 3#32 then
    let s2 := if s1.len = 0#32 then goTo .crcf 0#32 s1 else goTo .pay s1.len s1
    emit (.hdr s2.len s2.typ) s2
  else goTo s1.phase (s1.cnt + 1#32) s1

/-- PUSH in phase PAY (R136). -/
def pushPay (d : Byte) (s : State) : State :=
  let s1 := emit (.pay d) (feedCrc d s)
  if s1.cnt = 1#32 then goTo .crcf 0#32 s1
  else goTo s1.phase (s1.cnt - 1#32) s1

/-- The verdict on a complete frame (R137, R128, R196): the type first, then the checksum. -/
def judgeFrame (s : State) : State :=
  if !tvalid s.typ then takeError .invalidType s
  else if s.crcRx ≠ calcOf s then takeError .checksumMismatch s
  else goTo .len 0#32 (countFrame s)

/-- PUSH in phase CRCF (R137). `FRM` carries the state after the verdict. -/
def pushCrcf (d : Byte) (s : State) : State :=
  let s1 := shiftCrcRx d s
  if s1.cnt = 3#32 then
    let s2 := judgeFrame s1
    emit (frmOf s2) s2
  else goTo s1.phase (s1.cnt + 1#32) s1

/-- PUSH in phase DRAIN: the byte is discarded (R138, R198). -/
def pushDrain (_d : Byte) (s : State) : State := s

/-- The arm of PUSH that runs (R132). After `start_stream` the phase is never IDLE, so the IDLE arm is never
reached from `pushBeat`. -/
def pushArm (d : Byte) (s : State) : State :=
  match s.phase with
  | .idle => s
  | .raw => pushRaw d s
  | .magic => pushMagic d s
  | .len => pushLen d s
  | .typ => pushTyp d s
  | .pay => pushPay d s
  | .crcf => pushCrcf d s
  | .drain => pushDrain d s

/-- PUSH (R132): a stream starts first when the block is idle. -/
def pushBeat (d : Byte) (s : State) : State := pushArm d (startIfIdle s)

/-! ### END -/

/-- Whether END in this state is short of a frame boundary (R140, R191). -/
def endIsShort (s : State) : Bool :=
  match s.phase with
  | .magic | .typ | .pay | .crcf => true
  | .len => s.cnt != 0#32
  | .idle | .raw | .drain => false

/-- END in a phase other than RAW (R140): TooShort off a frame boundary, then the end of the stream. -/
def endParse (s : State) : State :=
  endStreamNow (if endIsShort s then raiseError .tooShort s else s)

/-- END in phase RAW (R105). The event shows `err` and `nfr` of the state (R80), which are 0 there (log entry 16). -/
def endRaw (s : State) : State := endStreamNow s

/-- END (R139): a stream starts first when the block is idle. -/
def endBeat (s : State) : State :=
  let s1 := startIfIdle s
  if s1.phase = .raw then endRaw s1 else endParse s1

/-! ### The meanings -/

/-- S.NOP (R130): no state change, no output event. -/
def execSNop (s : State) : Host.Outcome State Fault Refusal := .next (quietStream s)

/-- PUSH d (R132). -/
def execPush (d : Byte) (s : State) : Host.Outcome State Fault Refusal := .next (pushBeat d (quietStream s))

/-- END (R139). -/
def execEndStream (s : State) : Host.Outcome State Fault Refusal := .next (endBeat (quietStream s))

end Sys2Proof.Machine
end

