-- ==== Sys2Proof/Machine/Dispatch.lean ====
section
/-! DEFINITION. The meaning of every operation, one arm per row of spec/opcode_table.json. -/

namespace Sys2Proof.Machine

def exec (i : Instr) (s : State) : Host.Outcome State Fault Refusal :=
  match i with
  | .rst => Sys2Proof.Machine.execRst s
  | .sNop => Sys2Proof.Machine.execSNop s
  | .push d => Sys2Proof.Machine.execPush d s
  | .endStream => Sys2Proof.Machine.execEndStream s
  | .hNop => Sys2Proof.Machine.execHNop s
  | .rdCtrl => Sys2Proof.Machine.execRdCtrl s
  | .rdCmd => Sys2Proof.Machine.execRdCmd s
  | .rdStatus => Sys2Proof.Machine.execRdStatus s
  | .rdLen => Sys2Proof.Machine.execRdLen s
  | .rdType => Sys2Proof.Machine.execRdType s
  | .rdCrcRx => Sys2Proof.Machine.execRdCrcRx s
  | .rdCrcCalc => Sys2Proof.Machine.execRdCrcCalc s
  | .rdNframes => Sys2Proof.Machine.execRdNframes s
  | .rdCnt => Sys2Proof.Machine.execRdCnt s
  | .rdRsvd9 => Sys2Proof.Machine.execRdRsvd9 s
  | .rdRsvd10 => Sys2Proof.Machine.execRdRsvd10 s
  | .rdRsvd11 => Sys2Proof.Machine.execRdRsvd11 s
  | .rdRsvd12 => Sys2Proof.Machine.execRdRsvd12 s
  | .rdRsvd13 => Sys2Proof.Machine.execRdRsvd13 s
  | .rdRsvd14 => Sys2Proof.Machine.execRdRsvd14 s
  | .rdRsvd15 => Sys2Proof.Machine.execRdRsvd15 s
  | .wrCtrl v => Sys2Proof.Machine.execWrCtrl v s
  | .wrCmd v => Sys2Proof.Machine.execWrCmd v s
  | .wrIgn2 v => Sys2Proof.Machine.execWrIgn2 v s
  | .wrIgn3 v => Sys2Proof.Machine.execWrIgn3 v s
  | .wrIgn4 v => Sys2Proof.Machine.execWrIgn4 v s
  | .wrIgn5 v => Sys2Proof.Machine.execWrIgn5 v s
  | .wrIgn6 v => Sys2Proof.Machine.execWrIgn6 v s
  | .wrIgn7 v => Sys2Proof.Machine.execWrIgn7 v s
  | .wrIgn8 v => Sys2Proof.Machine.execWrIgn8 v s
  | .wrIgn9 v => Sys2Proof.Machine.execWrIgn9 v s
  | .wrIgn10 v => Sys2Proof.Machine.execWrIgn10 v s
  | .wrIgn11 v => Sys2Proof.Machine.execWrIgn11 v s
  | .wrIgn12 v => Sys2Proof.Machine.execWrIgn12 v s
  | .wrIgn13 v => Sys2Proof.Machine.execWrIgn13 v s
  | .wrIgn14 v => Sys2Proof.Machine.execWrIgn14 v s
  | .wrIgn15 v => Sys2Proof.Machine.execWrIgn15 v s

end Sys2Proof.Machine
end

