-- ==== Sys2Proof/Machine/Step.lean ====
section
/-! DEFINITION. One step of the block (spec/00_scope.md R7): the reset pin first (spec/30_encoding.md R73), else the host
event and then the stream event on the state it left (spec/20_memory.md R59). -/

namespace Sys2Proof.Machine

/-- One step: it takes the next port words and runs what they decode to. -/
def step (s : State) : Host.Outcome State Fault Refusal :=
  let p := nextInput s
  let s0 := dropInput s
  if p.rst then exec .rst s0
  else andThen (exec (decodeHost p.h) s0) (fun s1 => exec (decodeStream p.s) s1)

/-- The word of an opcode-table row presented on its port in the next step, the other ports idle (log entries 4 and
5). Bytes that are no port word present nothing. -/
def State.withFetchWord (s : State) (nbits w : Nat) : State :=
  match portWordOfBytes (tableBytes nbits w) with
  | .ok p => presentInput p.alone s
  | .error _ => s

end Sys2Proof.Machine
end

