-- ==== Sys2Proof/Machine/Format.lean ====
section
/-! DEFINITION. The byte formats (spec/30_encoding.md R74, R75, R77, R87): the serialized form of a frame and of a
container. -/

namespace Sys2Proof.Machine

/-- `BE32(n)`, the four bytes of a value, the most significant first (R77). -/
def be32 (n : Word) : List Byte :=
  [n.extractLsb' 24 8, n.extractLsb' 16 8, n.extractLsb' 8 8, n.extractLsb' 0 8]

/-- The value of a 4-byte big-endian field in arrival order (R76). -/
def beWord (b0 b1 b2 b3 : Byte) : Word := b0 ++ b1 ++ b2 ++ b3

/-- The bytes a frame's checksum covers: the type bytes, then the payload, and nothing else (R107). -/
def coveredBytes (f : Frame) : List Byte := be32 f.typ ++ f.payload

/-- The checksum of a well-formed frame (R74, R107). -/
def frameChecksum (f : Frame) : Word := crc32 (coveredBytes f)

/-- The parts of a frame in stream order, with any length and checksum field (R74). -/
def frameLayout (len : Word) (f : Frame) (checksum : Word) : List Byte :=
  be32 len ++ be32 f.typ ++ f.payload ++ be32 checksum

/-- The serialized form of a frame with its checksum field forced (R86 `FRAMEX`): none when the payload does
not fit the length field (R86, U1). -/
def serializeWith (f : Frame) (checksum : Word) : Option (List Byte) :=
  if f.wellFormed then some (frameLayout (BitVec.ofNat 32 f.payload.length) f checksum) else none

/-- The serialized form of a frame (R87). -/
def serialize (f : Frame) : Option (List Byte) := serializeWith f (frameChecksum f)

/-- The serialized forms of frames laid end to end, with nothing between them (R55, R75). -/
def serializeFrames : List Frame → Option (List Byte)
  | [] => some []
  | f :: fs =>
    match serialize f, serializeFrames fs with
    | some b, some bs => some (b ++ bs)
    | _, _ => none

/-- The serialized form of a container: the preamble, then the frames in order (R75, R87). -/
def serializeContainer (fs : List Frame) : Option (List Byte) :=
  match serializeFrames fs with
  | some bs => some (Config.magic ++ bs)
  | none => none

end Sys2Proof.Machine
end

