-- ==== Sys2Proof/Machine/Buffered.lean ====
section
/-! DEFINITION. The document's parse over a complete byte buffer, as spec/42_deserializer.md R142, R143 and
spec/60_exceptions.md R196 order its steps, and the consumer's duty of spec/70_reset_and_hazards.md R224. Claims compare
the block's streaming parse with these. -/

namespace Sys2Proof.Machine

/-- The result of a buffered parse: the good frames in order before the first failure, and the failure if any. -/
structure ParseResult where
  frames : List Frame
  error : Option ErrorKind
  deriving DecidableEq, Repr

/-- The first frame of a buffer, its received checksum, and the bytes after it: none when the frame is not completely
present (R74, R78; R196 item 2: presence comes before any other test). -/
def splitFrame : List Byte → Option (Frame × Word × List Byte)
  | l0 :: l1 :: l2 :: l3 :: t0 :: t1 :: t2 :: t3 :: rest =>
    let n := (beWord l0 l1 l2 l3).toNat
    match rest.drop n with
    | c0 :: c1 :: c2 :: c3 :: after =>
      some (⟨beWord t0 t1 t2 t3, rest.take n⟩, beWord c0 c1 c2 c3, after)
    | _ => none
  | _ => none

/-- The frames of a buffer, front to back (R143, R196): success when no byte remains, TooShort before InvalidType before
ChecksumMismatch within a frame, and the first faulty frame ends the parse. The first argument bounds the
number of frames looked at (the length of the buffer is enough). -/
def parseFrames : Nat → List Byte → ParseResult
  | _, [] => ⟨[], none⟩
  | 0, _ :: _ => ⟨[], some .tooShort⟩
  | k + 1, b :: bs =>
    match splitFrame (b :: bs) with
    | none => ⟨[], some .tooShort⟩
    | some (f, received, rest) =>
      if !tvalid f.typ then ⟨[], some .invalidType⟩
      else if received ≠ frameChecksum f then ⟨[], some .checksumMismatch⟩
      else
        let r := parseFrames k rest
        ⟨f :: r.frames, r.error⟩

/-- The parse of a buffer of frames without a preamble (R142). -/
def parseBuffer (bs : List Byte) : ParseResult := parseFrames bs.length bs

/-- The parse of a container (R143): fewer than 8 bytes is TooShort, a wrong preamble BadMagic, then the frames. -/
def parseContainer (bs : List Byte) : ParseResult :=
  if bs.length < 8 then ⟨[], some .tooShort⟩
  else if bs.take 8 ≠ Config.magic then ⟨[], some .badMagic⟩
  else parseBuffer (bs.drop 8)

/-- What the consumer of R224 commits of a stream's output events: it buffers the frames and delivers them on `EOS(0, ...)`
only. `done` are the frames of good `FRM` events so far, `pay` the payload bytes since the last `HDR`. -/
def consume (done : List Frame) (pay : List Byte) : List OutEvent → Option (List Frame)
  | [] => none
  | .hdr _ _ :: es => consume done [] es
  | .pay d :: es => consume done (pay ++ [d]) es
  | .frm e _ t _ _ :: es => consume (if e = 0#3 then done ++ [⟨t, pay⟩] else done) [] es
  | .eos e _ _ :: _ => if e = 0#3 then some done else none

/-- The single result of a parse for its caller: all the frames, or nothing on any failure (R2, R143). -/
def delivered (r : ParseResult) : Option (List Frame) :=
  match r.error with
  | none => some r.frames
  | some _ => none

end Sys2Proof.Machine
end

