-- ==== Sys2Proof/Machine/Run.lean ====
section
/-! DEFINITION. Several steps with the output events they emit, and the port words of a stream. -/

namespace Sys2Proof.Machine

/-- `k` steps, and the output events of all of them in step order (R58); none if a step stops. -/
def runSteps : Nat → State → Option (State × List OutEvent)
  | 0, s => some (s, [])
  | k + 1, s =>
    match step s with
    | .next t =>
      match runSteps k t with
      | some (u, es) => some (u, t.events ++ es)
      | none => none
    | .fault _ => none
    | .refused _ => none

/-- The step that presents one operation by its canonical word, the other ports idle (R86). -/
def aloneInput (i : Instr) : StepInput := (encode i).alone

/-- `BYTES`, one `PUSH` step per byte (R86). -/
def bytesInputs (bs : List Byte) : List StepInput := bs.map fun d => aloneInput (.push d)

/-- A whole stream: its bytes, then the `END` beat (R12, R142). -/
def streamInputs (bs : List Byte) : List StepInput := bytesInputs bs ++ [aloneInput .endStream]

end Sys2Proof.Machine
end

