-- ==== Sys2Proof/Machine/Trace.lean ====
section
/-! DEFINITION. The event-trace notation (spec/30_encoding.md R86): the steps a line stands for. -/

namespace Sys2Proof.Machine

/-- A character's ASCII code as a stream byte (R86, general knowledge G5). -/
def asciiByte (c : Char) : Byte := BitVec.ofNat 8 c.toNat

/-- The 32-bit type of a four-character text, the first character in bits 31:24 (R52, R76). -/
def typeOfText (text : List Char) : Word := text.foldl (fun t c => (t <<< 8) ||| (asciiByte c).setWidth 32) 0#32

/-- A step with an event on each port (R86 "||"). -/
def joined (host stream : Instr) : StepInput :=
  match encode host, encode stream with
  | .host h, .stream s => ⟨false, s, h⟩
  | _, _ => ⟨false, 0#10, 0#38⟩

/-- `PUSH` steps for bytes that exist only if the frame has a serialized form. -/
def optBytes : Option (List Byte) → Option (List StepInput)
  | some bs => some (bytesInputs bs)
  | none => none

/-- The steps of a line that is well-formed (R86). -/
def expandLine : TraceLine → Option (List StepInput)
  | .rst => some [aloneInput .rst]
  | .events host stream => some [joined host stream]
  | .bytes bs => some (bytesInputs bs)
  | .str text => some (bytesInputs (text.map asciiByte))
  | .be32 n => some (bytesInputs (be32 n))
  | .magic => some (bytesInputs Config.magic)
  | .frame text payload => optBytes (serialize ⟨typeOfText text, payload⟩)
  | .frameX text payload c => optBytes (serializeWith ⟨typeOfText text, payload⟩ c)

/-- The expansion of a line: none for a line that has none (R86; U1). -/
def expand (l : TraceLine) : Option (List StepInput) := if l.wellFormed then expandLine l else none

end Sys2Proof.Machine
end

