-- ==== Sys2Proof/Machine/Ports.lean ====
section
/-! DEFINITION. The signals of the block (spec/30_encoding.md R70): the port words from the input signals, and the
output signals of the step that left a state. -/

namespace Sys2Proof.Machine

/-- The stream-port word of its signals (R71). -/
def streamSignals (sValid sEnd : Bool) (sData : Byte) : StreamWord :=
  BitVec.ofBool sValid ++ BitVec.ofBool sEnd ++ sData

/-- The host-port word of its signals (R72). -/
def hostSignals (hSel hWe : Bool) (hAddr : RegAddr) (hWdata : Word) : HostWord :=
  BitVec.ofBool hSel ++ BitVec.ofBool hWe ++ hAddr ++ hWdata

/-- `HDR` is among the events (R80). -/
def hasHdr (es : List OutEvent) : Bool := es.any fun e => match e with | .hdr _ _ => true | _ => false

/-- `PAY` is among the events (R80). -/
def hasPay (es : List OutEvent) : Bool := es.any fun e => match e with | .pay _ => true | _ => false

/-- `FRM` is among the events (R80). -/
def hasFrm (es : List OutEvent) : Bool := es.any fun e => match e with | .frm _ _ _ _ _ => true | _ => false

/-- `EOS` is among the events (R80). -/
def hasEos (es : List OutEvent) : Bool := es.any fun e => match e with | .eos _ _ _ => true | _ => false

/-- The payload byte of the step, 0 when there is none (R70 `o_pay_data`). -/
def payData : List OutEvent → Byte
  | [] => 0#8
  | .pay d :: _ => d
  | _ :: es => payData es

/-- The output signals of R70. -/
structure OutputPins where
  sReady : Bool
  hRdata : Word
  oHdr : Bool
  oPay : Bool
  oPayData : Byte
  oFrm : Bool
  oEos : Bool
  oLen : Word
  oType : Word
  oCrcRx : Word
  oCrcCalc : Word
  oNframes : Word
  oTflags : BitVec 6
  oBusy : Bool
  oErr : BitVec 3
  deriving DecidableEq, Repr

/-- The output signals in the step that left the state `s` (R70, R80): the field buses show the state after the
step. -/
def outputPins (s : State) : OutputPins where
  sReady := true
  hRdata := s.hRdata
  oHdr := hasHdr s.events
  oPay := hasPay s.events
  oPayData := payData s.events
  oFrm := hasFrm s.events
  oEos := hasEos s.events
  oLen := s.len
  oType := s.typ
  oCrcRx := s.crcRx
  oCrcCalc := calcOf s
  oNframes := s.nfr
  oTflags := tflags s.typ
  oBusy := busy s
  oErr := s.err

/-- How many of the four strobes are 1 (R70). -/
def strobeCount (p : OutputPins) : Nat := p.oHdr.toNat + p.oPay.toNat + p.oFrm.toNat + p.oEos.toNat

end Sys2Proof.Machine
end

