-- ==== Sys2Proof/Safety.lean ====
section
/-! DEFINITION. The terms claims use: the invariants of spec/10_state.md R41, the architectural part of a state, and
what a safe step is. -/

namespace Sys2Proof.Machine

/-- R41 item 1. -/
abbrev invIdleCount (s : State) : Prop := (s.phase = .idle ∨ s.phase = .raw ∨ s.phase = .drain) → s.cnt = 0#32

/-- R41 item 2. -/
abbrev invFieldCount (s : State) : Prop :=
  (s.phase = .magic → s.cnt ≤ 7#32) ∧
  ((s.phase = .len ∨ s.phase = .typ ∨ s.phase = .crcf) → s.cnt ≤ 3#32) ∧
  (s.phase = .pay → 1#32 ≤ s.cnt ∧ s.cnt ≤ s.len)

/-- R41 item 3. -/
abbrev invDrainError (s : State) : Prop := s.phase = .drain → s.err = 2#3 ∨ s.err = 3#3 ∨ s.err = 4#3

/-- R41 item 4. -/
abbrev invActiveNoError (s : State) : Prop :=
  (s.phase = .raw ∨ s.phase = .magic ∨ s.phase = .len ∨ s.phase = .typ ∨ s.phase = .pay ∨ s.phase = .crcf) →
    s.err = 0#3

/-- R41 item 5. -/
abbrev invTooShortEnded (s : State) : Prop := s.err = 1#3 → s.phase = .idle ∧ s.done = true

/-- R41 item 6. -/
abbrev invDoneIdle (s : State) : Prop := s.done = true → s.phase = .idle

/-- R41 item 7. -/
abbrev invBadMagic (s : State) : Prop :=
  (s.err = 2#3 → s.mbad = true) ∧
  (s.mbad = true → s.phase ≠ .magic → s.phase ≠ .idle → s.err = 2#3)

/-- R41 item 8. -/
abbrev invMode (s : State) : Prop :=
  (s.phase = .raw → s.ctrlParse = false) ∧
  ((s.phase = .magic ∨ s.phase = .len ∨ s.phase = .typ ∨ s.phase = .pay ∨ s.phase = .crcf ∨ s.phase = .drain) →
    s.ctrlParse = true) ∧
  (s.phase = .magic → s.ctrlHdr = true)

/-- R41 item 9. -/
abbrev invErrorCode (s : State) : Prop := s.err ≤ 4#3

/-- The nine invariants of R41. -/
abbrev LegalState (s : State) : Prop :=
  invIdleCount s ∧ invFieldCount s ∧ invDrainError s ∧ invActiveNoError s ∧ invTooShortEnded s ∧
  invDoneIdle s ∧ invBadMagic s ∧ invMode s ∧ invErrorCode s

/-- The twelve elements of R20 alone: the model's own fields blanked. -/
def elements (s : State) : State := { s with hRdata := 0#32, events := [], inputs := [] }

/-- A frame boundary: phase LEN with no byte of the length field accepted (R22). -/
abbrev atBoundary (s : State) : Prop := s.phase = .len ∧ s.cnt = 0#32

/-- A safe step: the machine goes on (R7: the block never stalls, never refuses an event). -/
def SafeStep (s : State) : Prop := ∃ t, step s = .next t

end Sys2Proof.Machine
end

