-- ==== Sys2Proof/Certificates/Slice0/Obligations.lean ====
section
/-! DEFINITION. The statements for the provers. R<n> is a numbered rule of spec/. The fields `hRdata`, `events` and
`inputs` of a state are the model's own (log entries 1 and 3): `events := []` says "no output event", and the
`inputs` of a state are what the environment presents in later steps. -/

open Sys2Proof Sys2Proof.Machine

/-! ### Reset -/

/-- R73, R220: a reset step sets every element to its reset value, whatever the other two port words carry, drives `h_rdata` 0 and
emits nothing. -/
def Obligations.ResetStepSetsEveryElement : Prop :=
  ∀ (s : State) (w : StreamWord) (h : HostWord) (rest : List StepInput),
    step { s with inputs := ⟨true, w, h⟩ :: rest } = .next
      { ctrlParse := false, ctrlHdr := false, phase := .idle, cnt := 0#32, len := 0#32, typ := 0#32,
        crcRx := 0#32, crc := 0xFFFFFFFF#32, nfr := 0#32, err := 0#3, done := false, mbad := false,
        hRdata := 0#32, events := [], inputs := rest } ∧
    exec .rst s = .next
      { ctrlParse := false, ctrlHdr := false, phase := .idle, cnt := 0#32, len := 0#32, typ := 0#32,
        crcRx := 0#32, crc := 0xFFFFFFFF#32, nfr := 0#32, err := 0#3, done := false, mbad := false,
        hRdata := 0#32, events := [], inputs := s.inputs }

/-- R40: the twelve elements after reset, and the register view: STATUS reads 0x00370000, every other word 0. -/
def Obligations.ResetStateAndRegisterView : Prop :=
  State.reset.ctrlParse = false ∧ State.reset.ctrlHdr = false ∧ State.reset.phase = .idle ∧
  State.reset.cnt = 0#32 ∧ State.reset.len = 0#32 ∧ State.reset.typ = 0#32 ∧ State.reset.crcRx = 0#32 ∧
  State.reset.crc = 0xFFFFFFFF#32 ∧ State.reset.nfr = 0#32 ∧ State.reset.err = 0#3 ∧
  State.reset.done = false ∧ State.reset.mbad = false ∧
  ∀ a : RegAddr, regRead a State.reset = if a = 2#4 then 0x00370000#32 else 0#32

/-- R41 at reset. -/
def Obligations.InvariantsHoldAtReset : Prop := LegalState State.reset

/-- R41: every step from a state with the nine invariants, reachable or not, leaves a state with them. -/
def Obligations.EveryStepKeepsTheInvariants : Prop :=
  ∀ s t : State, LegalState s → step s = .next t → LegalState t

/-! ### The step -/

/-- A step runs the decoded instruction: when the next step is presented a word of the opcode table's numbering that the
decoder reads as `i`, the step is `exec i` on the state with both output sides idle (the other ports carry no
event). The layout of table words in bytes is the model's choice, log entry 5. -/
def Obligations.StepRunsTheDecodedInstruction : Prop :=
  ∀ (s : State) (nbits w : Nat) (i : Instr), decodeTableWord nbits w = some i →
    step (s.withFetchWord nbits w) = exec i { s with hRdata := 0#32, events := [] }

/-- R59: without reset, the host event is applied first and the stream event second, to the state the host event left. -/
def Obligations.HostEventAppliesBeforeStreamEvent : Prop :=
  ∀ (s : State) (w : StreamWord) (h : HostWord) (rest : List StepInput),
    step { s with inputs := ⟨false, w, h⟩ :: rest } =
      match exec (decodeHost h) { s with inputs := rest } with
      | .next s1 => exec (decodeStream w) s1
      | .fault r => .fault r
      | .refused r => .refused r

/-- The model's choice, log entry 2: when no input is recorded, the next step has idle ports. -/
def Obligations.NoRecordedInputIsAnIdleStep : Prop :=
  ∀ s : State,
    step { s with inputs := [] } = .next { s with hRdata := 0#32, events := [], inputs := [] } ∧
    step { s with inputs := [] } = step { s with inputs := [⟨false, 0#10, 0#38⟩] }

/-- R59, R7: a step with both events is a host-only step followed by a stream-only step. -/
def Obligations.JointStepIsTwoSingleEventSteps : Prop :=
  ∀ (s : State) (w : StreamWord) (h : HostWord) (rest : List StepInput),
    ∃ u t1 t2 : State,
      step { s with inputs := ⟨false, w, h⟩ :: rest } = .next u ∧
      step { s with inputs := ⟨false, 0#10, h⟩ :: ⟨false, w, 0#38⟩ :: rest } = .next t1 ∧
      step t1 = .next t2 ∧
      elements u = elements t2 ∧ u.events = t2.events ∧ u.hRdata = t1.hRdata ∧
      u.inputs = rest ∧ t2.inputs = rest ∧ t1.events = []

/-- R7: every event and every step has a result from every state, and a step uses up exactly one recorded input. -/
def Obligations.EveryEventAndStepHasAResult : Prop :=
  (∀ (i : Instr) (s : State), ∃ t, exec i s = .next t ∧ t.inputs = s.inputs) ∧
  ∀ s : State, ∃ t, step s = .next t ∧ t.inputs = s.inputs.tail

/-- R82, R208: with `s_valid` 0 and `h_sel` 0 the ignored signals change nothing, and nothing of the block's state changes. The
ignored signals of `END` and `RD` change nothing either. -/
def Obligations.IgnoredSignalsDoNotMatter : Prop :=
  ∀ (s : State) (e we : Bool) (d d' : Byte) (a : RegAddr) (v v' : Word) (h : HostWord) (w : StreamWord)
      (rest : List StepInput),
    step { s with inputs := ⟨false, streamSignals false e d, hostSignals false we a v⟩ :: rest } =
      .next { s with hRdata := 0#32, events := [], inputs := rest } ∧
    step { s with inputs := ⟨false, streamSignals true true d, h⟩ :: rest } =
      step { s with inputs := ⟨false, streamSignals true true d', h⟩ :: rest } ∧
    step { s with inputs := ⟨false, w, hostSignals true false a v⟩ :: rest } =
      step { s with inputs := ⟨false, w, hostSignals true false a v'⟩ :: rest }

/-- R141, R70: a step emits at most one output event, raises at most one strobe, and emits none without a beat. -/
def Obligations.AtMostOneEventAndOnlyFromABeat : Prop :=
  ∀ s t : State, step s = .next t →
    t.events.length ≤ 1 ∧ strobeCount (outputPins t) = t.events.length ∧
    ((nextInput s).rst = true ∨ (nextInput s).s.getLsbD 9 = false → t.events = [])

/-- R70: `h_rdata` is `RegRead(h_addr)` on the state before the step's stream event in a step with a read, 0 in every other step. -/
def Obligations.ReadDataOnlyInAReadStep : Prop :=
  ∀ (s : State) (w : StreamWord) (we : Bool) (a : RegAddr) (v : Word) (rest : List StepInput),
    (∃ t, step { s with inputs := ⟨false, w, hostSignals true false a v⟩ :: rest } = .next t ∧
      t.hRdata = regRead a s) ∧
    (∃ t, step { s with inputs := ⟨false, w, hostSignals true true a v⟩ :: rest } = .next t ∧
      t.hRdata = 0#32) ∧
    (∃ t, step { s with inputs := ⟨false, w, hostSignals false we a v⟩ :: rest } = .next t ∧
      t.hRdata = 0#32)

/-! ### Encodings -/

/-- Decode and encode agree, as port words and as raw bytes, for every operation with every operand. -/
def Obligations.DecodeInvertsEncode : Prop :=
  ∀ i : Instr, decodePort (encode i) = .ok i ∧ decodeBytes (encode i).bytes = .ok i ∧
    decodeTableWord (8 * (encode i).bytes.length) (encode i).value = some i

/-- R71, R72: the canonical words of the operations with an operand, as numbers. -/
def Obligations.CanonicalWordsAreAsTabled : Prop :=
  ∀ (d : Byte) (a : RegAddr) (v : Word),
    (encode (.push d)).value = 0x200 + d.toNat ∧
    (encode (decodeRead a)).value = 0x2000000000 + a.toNat * 2 ^ 32 ∧
    (encode (decodeWrite a v)).value = 0x3000000000 + a.toNat * 2 ^ 32 + v.toNat

/-- R71, R72, R73: every port word but the low reset pin lies in exactly one row of the operation table, the row of the
operation it decodes to. -/
def Obligations.EveryPortWordIsInExactlyOneRow : Prop :=
  ∀ p : PortWord, p ≠ .pin 0#1 →
    ∃ i, decodePort p = .ok i ∧ (opRow i).holds p = true ∧
      ∀ r ∈ opTable, r.holds p = true → r = opRow i

/-- Words written out from R71 and R72 decode to the operations they stand for. -/
def Obligations.SampleWordsDecodeAsTheSpecSays : Prop :=
  decodePin 0b1#1 = .ok .rst ∧
  decodeStream 0b0101010101#10 = .sNop ∧
  decodeStream 0b1010001001#10 = .push 0x89#8 ∧
  decodeStream 0b1110101010#10 = .endStream ∧
  decodeHost 0b01111100000000000000000000000000000001#38 = .hNop ∧
  decodeHost 0b10001000000000000000000000000000000000#38 = .rdStatus ∧
  decodeHost 0b10100000000000000000000000000000000000#38 = .rdCnt ∧
  decodeHost 0b11000000000000000000000000000000000011#38 = .wrCtrl 3#32 ∧
  decodeHost 0b11000100000000000000000000000000000001#38 = .wrCmd 1#32 ∧
  decodeHost 0b11111111111111111111111111111111111111#38 = .wrIgn15 0xFFFFFFFF#32

/-! ### The stream port -/

/-- R130: `S.NOP` changes nothing and emits nothing, and any number of steps without a beat between two beats has no
effect. -/
def Obligations.StreamNopsHaveNoEffect : Prop :=
  (∀ s : State, exec .sNop s = .next { s with events := [] }) ∧
  ∀ (s : State) (ws : List StreamWord) (rest : List StepInput),
    (∀ w ∈ ws, w.getLsbD 9 = false) → s.inputs = ws.map (fun w => ⟨false, w, 0#38⟩) ++ rest →
    ∃ t, runSteps ws.length s = some (t, []) ∧ elements t = elements s ∧ t.inputs = rest

/-- R131: a beat accepted in IDLE first starts the stream under the CTRL bits, in the same step, and in no other phase does a
beat read those bits. -/
def Obligations.StreamStartsUnderTheControlBits : Prop :=
  (∀ (s : State) (i : Instr), i.port = .stream → i ≠ .sNop → s.phase = .idle →
    ∃ t, exec i s = .next t ∧
      exec i { s with
        done := false, err := 0#3, nfr := 0#32, mbad := false, cnt := 0#32,
        phase := if s.ctrlParse = false then .raw else if s.ctrlHdr = true then .magic else .len,
        crc := if s.ctrlParse = false then 0xFFFFFFFF#32 else s.crc } = .next t) ∧
  ∀ (s : State) (i : Instr) (p h : Bool), i.port = .stream → s.phase ≠ .idle →
    ∃ t, exec i s = .next t ∧
      exec i { s with ctrlParse := p, ctrlHdr := h } = .next { t with ctrlParse := p, ctrlHdr := h }

/-- R104: `PUSH` in RAW updates `crc` and nothing else. -/
def Obligations.PushInRawUpdatesCrc : Prop :=
  ∀ (s : State) (d : Byte), s.phase = .raw →
    exec (.push d) s = .next { s with crc := crcUpd s.crc d, events := [] }

/-- R133: `PUSH` of a preamble byte. A byte number above 7 is in no reachable state (R41) and has no preamble byte. -/
def Obligations.PushInMagicChecksThePreamble : Prop :=
  ∀ (s : State) (d m : Byte) (bad : Bool), s.phase = .magic →
    [0x89#8, 0x50#8, 0x4E#8, 0x47#8, 0x0D#8, 0x0A#8, 0x1A#8, 0x0A#8][s.cnt.toNat]? = some m →
    bad = (s.mbad || d != m) →
    exec (.push d) s = .next { s with
      mbad := bad
      phase := if s.cnt = 7#32 then (if bad then .drain else .len) else .magic
      cnt := if s.cnt = 7#32 then 0#32 else s.cnt + 1#32
      err := if s.cnt = 7#32 ∧ bad = true then 2#3 else s.err
      events := [] }

/-- R134: `PUSH` of a length byte. -/
def Obligations.PushInLenAssemblesTheLength : Prop :=
  ∀ (s : State) (d : Byte), s.phase = .len →
    exec (.push d) s = .next { s with
      len := (s.len <<< 8) ||| d.setWidth 32
      phase := if s.cnt = 3#32 then .typ else .len
      cnt := if s.cnt = 3#32 then 0#32 else s.cnt + 1#32
      crc := if s.cnt = 3#32 then 0xFFFFFFFF#32 else s.crc
      events := [] }

/-- R135: `PUSH` of a type byte; `HDR` on the fourth, whether or not the type is valid. -/
def Obligations.PushInTypeAssemblesTheType : Prop :=
  ∀ (s : State) (d : Byte), s.phase = .typ →
    exec (.push d) s = .next { s with
      typ := (s.typ <<< 8) ||| d.setWidth 32
      crc := crcUpd s.crc d
      phase := if s.cnt = 3#32 then (if s.len = 0#32 then .crcf else .pay) else .typ
      cnt := if s.cnt = 3#32 then s.len else s.cnt + 1#32
      events := if s.cnt = 3#32 then [.hdr s.len ((s.typ <<< 8) ||| d.setWidth 32)] else [] }

/-- R136: `PUSH` of a payload byte; the byte is forwarded in the same step. -/
def Obligations.PushInPayloadForwardsTheByte : Prop :=
  ∀ (s : State) (d : Byte), s.phase = .pay →
    exec (.push d) s = .next { s with
      crc := crcUpd s.crc d
      phase := if s.cnt = 1#32 then .crcf else .pay
      cnt := if s.cnt = 1#32 then 0#32 else s.cnt - 1#32
      events := [.pay d] }

/-- R137: `PUSH` of a checksum byte before the fourth only assembles the field. The fourth judges the frame, the type
first, then the checksum, and emits `FRM`. -/
def Obligations.PushInChecksumJudgesTheFrame : Prop :=
  ∀ (s : State) (d : Byte) (rx : Word), s.phase = .crcf → rx = (s.crcRx <<< 8) ||| d.setWidth 32 →
    (s.cnt ≠ 3#32 →
      exec (.push d) s = .next { s with crcRx := rx, cnt := s.cnt + 1#32, events := [] }) ∧
    (s.cnt = 3#32 → tvalid s.typ = false →
      exec (.push d) s = .next { s with
        crcRx := rx, cnt := 0#32, err := 3#3, phase := .drain
        events := [.frm 3#3 s.len s.typ rx (s.crc ^^^ 0xFFFFFFFF#32)] }) ∧
    (s.cnt = 3#32 → tvalid s.typ = true → rx ≠ s.crc ^^^ 0xFFFFFFFF#32 →
      exec (.push d) s = .next { s with
        crcRx := rx, cnt := 0#32, err := 4#3, phase := .drain
        events := [.frm 4#3 s.len s.typ rx (s.crc ^^^ 0xFFFFFFFF#32)] }) ∧
    (s.cnt = 3#32 → tvalid s.typ = true → rx = s.crc ^^^ 0xFFFFFFFF#32 →
      exec (.push d) s = .next { s with
        crcRx := rx, cnt := 0#32, nfr := s.nfr + 1#32, phase := .len
        events := [.frm s.err s.len s.typ rx (s.crc ^^^ 0xFFFFFFFF#32)] })

/-- R138, R198, R200: in DRAIN every byte is discarded, whatever the bytes are; `END` reports the recorded error; DRAIN is left
by `END`, `CLR` and reset only. -/
def Obligations.DrainDiscardsUntilEnd : Prop :=
  (∀ (s : State) (d : Byte), s.phase = .drain → exec (.push d) s = .next { s with events := [] }) ∧
  (∀ (i : Instr) (s t : State), s.phase = .drain → exec i s = .next t →
    t.phase = .drain ∨ i = .endStream ∨ i = .rst ∨ ∃ v : Word, i = .wrCmd v ∧ v.getLsbD 0 = true) ∧
  ∀ (s : State) (bs : List Byte) (rest : List StepInput), s.phase = .drain →
    s.inputs = streamInputs bs ++ rest →
    runSteps (bs.length + 1) s = some
      ({ s with
          phase := .idle, cnt := 0#32, done := true, hRdata := 0#32, inputs := rest
          events := [.eos s.err s.nfr (s.crc ^^^ 0xFFFFFFFF#32)] },
        [.eos s.err s.nfr (s.crc ^^^ 0xFFFFFFFF#32)])

/-- R105: `END` in RAW, where `err` is 0 (R41 item 4) and `nfr` is 0 (`RawStreamsCountNoFrames`), and `END` as the only beat of a
raw stream. -/
def Obligations.EndInRawReportsTheCrc : Prop :=
  (∀ s : State, s.phase = .raw → s.err = 0#3 → s.nfr = 0#32 →
    exec .endStream s = .next { s with
      phase := .idle, cnt := 0#32, done := true
      events := [.eos 0#3 0#32 (s.crc ^^^ 0xFFFFFFFF#32)] }) ∧
  ∀ s : State, s.phase = .idle → s.ctrlParse = false →
    exec .endStream s = .next { s with
      phase := .idle, cnt := 0#32, done := true, err := 0#3, nfr := 0#32, mbad := false
      crc := 0xFFFFFFFF#32, events := [.eos 0#3 0#32 0#32] }

/-- R28, R131, R104: no good frame is counted while a raw stream runs, an invariant of every step. -/
def Obligations.RawStreamsCountNoFrames : Prop :=
  (State.reset.phase = .raw → State.reset.nfr = 0#32) ∧
  ∀ s t : State, (s.phase = .raw → s.nfr = 0#32) → step s = .next t → t.phase = .raw → t.nfr = 0#32

/-- R140, R191: `END` in the phases of parse mode; TooShort off a frame boundary, otherwise `err` is kept. -/
def Obligations.EndOffABoundaryIsTooShort : Prop :=
  ∀ (s : State) (e : BitVec 3),
    s.phase = .magic ∨ s.phase = .len ∨ s.phase = .typ ∨ s.phase = .pay ∨ s.phase = .crcf ∨ s.phase = .drain →
    e = (if s.phase = .drain ∨ (s.phase = .len ∧ s.cnt = 0#32) then s.err else 1#3) →
    exec .endStream s = .next { s with
      phase := .idle, cnt := 0#32, done := true, err := e
      events := [.eos e s.nfr (s.crc ^^^ 0xFFFFFFFF#32)] }

/-- R140, R142, R143: an empty stream in parse mode: TooShort with the preamble on, success with zero frames with it off. -/
def Obligations.EmptyStreamVerdict : Prop :=
  ∀ s : State, s.phase = .idle → s.ctrlParse = true →
    exec .endStream s = .next { s with
      phase := .idle, cnt := 0#32, done := true, nfr := 0#32, mbad := false
      err := if s.ctrlHdr then 1#3 else 0#3
      events := [.eos (if s.ctrlHdr then 1#3 else 0#3) 0#32 (s.crc ^^^ 0xFFFFFFFF#32)] }

/-- R145: the phase moves only along the transition table, and to IDLE by reset or `CLR`. -/
def Obligations.PhaseMovesOnlyAlongTheTable : Prop :=
  ∀ (i : Instr) (s t : State), exec i s = .next t → t.phase ≠ s.phase →
    (∃ d, i = .push d ∧ (s.phase, t.phase) ∈
      [(.idle, .raw), (.idle, .magic), (.idle, .len), (.magic, .len), (.magic, .drain), (.len, .typ),
       (.typ, .crcf), (.typ, .pay), (.pay, .crcf), (.crcf, .len), (.crcf, .drain)]) ∨
    (t.phase = .idle ∧ (i = .endStream ∨ i = .rst ∨ ∃ v : Word, i = .wrCmd v ∧ v.getLsbD 0 = true))

/-! ### Errors -/

/-- R199, R200, R29: once recorded, an error is kept by every operation but reset, `CLR` and the beat that starts the next
stream. -/
def Obligations.RecordedErrorIsKept : Prop :=
  ∀ (i : Instr) (s t : State), exec i s = .next t →
    s.phase = .drain ∨ (s.phase = .idle ∧ i.port ≠ .stream) →
    t.err = s.err ∨ i = .rst ∨ ∃ v : Word, i = .wrCmd v ∧ v.getLsbD 0 = true

/-- R190, R191, R192, R193, R194: which beat raises which error, from any state with the invariants. -/
def Obligations.EachErrorHasItsOwnCause : Prop :=
  ∀ (i : Instr) (s t : State), LegalState s → exec i s = .next t → t.err ≠ s.err → t.err ≠ 0#3 →
    (t.err = 1#3 ∧ i = .endStream ∧ t.phase = .idle) ∨
    (t.phase = .drain ∧ ∃ d, i = .push d ∧
      ((t.err = 2#3 ∧ s.phase = .magic ∧ s.cnt = 7#32 ∧ t.mbad = true) ∨
       (t.err = 3#3 ∧ s.phase = .crcf ∧ s.cnt = 3#32 ∧ tvalid s.typ = false) ∨
       (t.err = 4#3 ∧ s.phase = .crcf ∧ s.cnt = 3#32 ∧ tvalid s.typ = true ∧ t.crcRx ≠ calcOf t)))

/-! ### Who writes what -/

/-- R21: the CTRL bits are written only by a CTRL write while idle and by reset. -/
def Obligations.ControlBitsHaveTwoWriters : Prop :=
  ∀ (i : Instr) (s t : State), exec i s = .next t →
    (t.ctrlParse = s.ctrlParse ∧ t.ctrlHdr = s.ctrlHdr) ∨ i = .rst ∨
    (s.phase = .idle ∧ ∃ v : Word, i = .wrCtrl v ∧ t.ctrlParse = v.getLsbD 0 ∧ t.ctrlHdr = v.getLsbD 1)

/-- R27: `crc` is preset by reset, `CLR`, the start of a raw stream and the fourth length byte, updated by `crc_upd` on each
byte accepted in RAW, TYPE and PAY, and changed by nothing else. -/
def Obligations.CrcRegisterHasTheseWriters : Prop :=
  ∀ (i : Instr) (s t : State), exec i s = .next t →
    t.crc = s.crc ∨
    (t.crc = 0xFFFFFFFF#32 ∧
      (i = .rst ∨ (∃ v : Word, i = .wrCmd v ∧ v.getLsbD 0 = true) ∨
       (i = .endStream ∧ s.phase = .idle ∧ s.ctrlParse = false) ∨
       (∃ d, i = .push d ∧ s.phase = .len ∧ s.cnt = 3#32))) ∨
    ∃ d, i = .push d ∧
      ((t.crc = crcUpd s.crc d ∧ (s.phase = .raw ∨ s.phase = .typ ∨ s.phase = .pay)) ∨
       (t.crc = crcUpd 0xFFFFFFFF#32 d ∧ s.phase = .idle ∧ s.ctrlParse = false))

/-- R56: reads have no side effect, and the only host writes with an effect are CTRL while idle and CMD with bit 0 set. -/
def Obligations.OnlyTwoHostWritesHaveAnEffect : Prop :=
  ∀ (i : Instr) (s t : State), i.port = .host → exec i s = .next t → elements t ≠ elements s →
    (s.phase = .idle ∧ ∃ v : Word, i = .wrCtrl v) ∨ ∃ v : Word, i = .wrCmd v ∧ v.getLsbD 0 = true

/-! ### The host port -/

/-- R170: no access, no state change, `h_rdata` 0. -/
def Obligations.HostNopDrivesZero : Prop :=
  ∀ s : State, exec .hNop s = .next { s with hRdata := 0#32 }

/-- R172, R173, R180: reads of CTRL, CMD and the reserved words. -/
def Obligations.ReadsOfControlAndReservedWords : Prop :=
  ∀ s : State,
    (∃ v : Word, exec .rdCtrl s = .next { s with hRdata := v } ∧
      v.getLsbD 0 = s.ctrlParse ∧ v.getLsbD 1 = s.ctrlHdr ∧ v.extractLsb' 2 30 = 0#30) ∧
    (∀ i ∈ [Instr.rdCmd, .rdRsvd9, .rdRsvd10, .rdRsvd11, .rdRsvd12, .rdRsvd13, .rdRsvd14, .rdRsvd15],
      exec i s = .next { s with hRdata := 0#32 })

/-- R175, R176, R177, R179, and the value of R178: reads of the datapath words. -/
def Obligations.ReadsOfDatapathWords : Prop :=
  ∀ s : State,
    exec .rdLen s = .next { s with hRdata := s.len } ∧
    exec .rdType s = .next { s with hRdata := s.typ } ∧
    exec .rdCrcRx s = .next { s with hRdata := s.crcRx } ∧
    exec .rdCrcCalc s = .next { s with hRdata := s.crc ^^^ 0xFFFFFFFF#32 } ∧
    exec .rdNframes s = .next { s with hRdata := s.nfr } ∧
    exec .rdCnt s = .next { s with hRdata := s.cnt }

/-- R36: the layout of STATUS, bit by bit; its value after reset; a write is ignored. -/
def Obligations.StatusLayout : Prop :=
  (∀ s : State, ∃ v : Word, exec .rdStatus s = .next { s with hRdata := v } ∧
    v.getLsbD 0 = decide (s.phase ≠ .idle) ∧
    v.getLsbD 1 = s.done ∧ v.getLsbD 2 = s.mbad ∧ v.getLsbD 3 = false ∧
    v.extractLsb' 4 3 = s.err ∧ v.getLsbD 7 = false ∧
    v.extractLsb' 8 3 = phaseCode s.phase ∧ v.extractLsb' 11 5 = 0#5 ∧
    v.getLsbD 16 = critical s.typ ∧ v.getLsbD 17 = isPublic s.typ ∧ v.getLsbD 18 = rsvok s.typ ∧
    v.getLsbD 19 = safe s.typ ∧ v.getLsbD 20 = tascii s.typ ∧ v.getLsbD 21 = tvalid s.typ ∧
    v.extractLsb' 22 10 = 0#10) ∧
  exec .rdStatus State.reset = .next { State.reset with hRdata := 0x00370000#32 } ∧
  ∀ (s : State) (v : Word), exec (.wrIgn2 v) s = .next { s with hRdata := 0#32 }

/-- R38: every bit of the twelve elements is readable through words 0 and 2 to 8. -/
def Obligations.EveryStateBitIsReadable : Prop :=
  ∀ s t : State, (∀ a : RegAddr, a ≠ 1#4 → a ≤ 8#4 → regRead a s = regRead a t) → elements s = elements t

/-- R181: a CTRL write is taken while idle and otherwise ignored completely. -/
def Obligations.ControlWriteOnlyWhileIdle : Prop :=
  ∀ (s : State) (v : Word),
    (s.phase = .idle →
      exec (.wrCtrl v) s = .next
        { s with ctrlParse := v.getLsbD 0, ctrlHdr := v.getLsbD 1, hRdata := 0#32 }) ∧
    (s.phase ≠ .idle → exec (.wrCtrl v) s = .next { s with hRdata := 0#32 })

/-- R182, R222: `CLR` gives every element its reset value but the CTRL bits, in every phase; without bit 0 a CMD write does
nothing. -/
def Obligations.CommandWriteClears : Prop :=
  ∀ (s : State) (v : Word),
    exec (.wrCmd v) s = .next
      (if v.getLsbD 0 then
        { s with
          phase := .idle, cnt := 0#32, len := 0#32, typ := 0#32, crcRx := 0#32, crc := 0xFFFFFFFF#32
          nfr := 0#32, err := 0#3, done := false, mbad := false, hRdata := 0#32 }
       else { s with hRdata := 0#32 })

/-- R183: writes of words 2 to 15 are ignored. -/
def Obligations.OtherWritesAreIgnored : Prop :=
  ∀ (s : State) (v : Word),
    ∀ i ∈ [Instr.wrIgn2 v, .wrIgn3 v, .wrIgn4 v, .wrIgn5 v, .wrIgn6 v, .wrIgn7 v, .wrIgn8 v, .wrIgn9 v,
        .wrIgn10 v, .wrIgn11 v, .wrIgn12 v, .wrIgn13 v, .wrIgn14 v, .wrIgn15 v],
      exec i s = .next { s with hRdata := 0#32 }

/-- R70, R36: the flags bus is STATUS[21:16] of the same state. -/
def Obligations.FlagsBusIsTheStatusField : Prop :=
  ∀ s : State, (outputPins s).oTflags = (regRead 2#4 s).extractLsb' 16 6

/-! ### The CRC -/

/-- R101: the table form of the byte update. -/
def Obligations.CrcTableForm : Prop :=
  ∀ (c : Word) (d : Byte),
    crcUpd c d = (c >>> 8) ^^^ crcUpd 0#32 ((c ^^^ d.setWidth 32).extractLsb' 0 8)

/-- R101: linearity over XOR. -/
def Obligations.CrcIsLinear : Prop :=
  ∀ (a b : Word) (d : Byte),
    crcUpd (a ^^^ b) 0#8 = crcUpd a 0#8 ^^^ crcUpd b 0#8 ∧ crcUpd a d = crcUpd (a ^^^ d.setWidth 32) 0#8

/-- R100: the reflected update with 0xEDB88320 is the normal-form update with 0x04C11DB7, bit-reversed. -/
def Obligations.CrcReflectsTheNormalForm : Prop :=
  ∀ (k : Nat) (c : Word), (crcBits k c).reverse = normalBits k c.reverse

/-- R101, R102: the spot values and worked examples of spec/40_crc32.md. The constants are the spec's decision D12, log entry
9. -/
def Obligations.CrcWorkedValues : Prop :=
  crcUpd 0xFFFFFFFF#32 0x00#8 = 0x2DFD1072#32 ∧ crcUpd 0xFFFFFFFF#32 0x01#8 = 0x5AFA20E4#32 ∧
  crcUpd 0xFFFFFFFF#32 0x80#8 = 0xC0459352#32 ∧ crcUpd 0xFFFFFFFF#32 0xFF#8 = 0x00FFFFFF#32 ∧
  crcUpd 0xFFFFFFFF#32 0x52#8 = 0xA89820AA#32 ∧ crcUpd 0#32 0xFF#8 = 0x2D02EF8D#32 ∧
  crc32 [] = 0#32 ∧
  crc32 [0x31#8, 0x32#8, 0x33#8, 0x34#8, 0x35#8, 0x36#8, 0x37#8, 0x38#8, 0x39#8] = 0xCBF43926#32

/-- R103, R104, R105, R106: a raw stream shows the CRC-32 of the bytes accepted so far, and `EOS` that of the whole stream. -/
def Obligations.RawStreamComputesTheCrc32 : Prop :=
  (∀ (s : State) (bs : List Byte) (rest : List StepInput), s.phase = .idle → s.ctrlParse = false → bs ≠ [] →
    s.inputs = bytesInputs bs ++ rest →
    ∃ t, runSteps bs.length s = some (t, []) ∧ t.phase = .raw ∧ t.inputs = rest ∧
      regRead 6#4 t = crc32 bs) ∧
  ∀ (s : State) (bs : List Byte) (rest : List StepInput), s.phase = .idle → s.ctrlParse = false →
    s.inputs = streamInputs bs ++ rest →
    ∃ t, runSteps (bs.length + 1) s = some (t, [.eos 0#3 0#32 (crc32 bs)]) ∧
      elements t = elements { s with
        phase := .idle, cnt := 0#32, done := true, err := 0#3, nfr := 0#32, mbad := false
        crc := crc32 bs ^^^ 0xFFFFFFFF#32 } ∧
      t.inputs = rest ∧ regRead 6#4 t = crc32 bs

/-! ### The type field -/

/-- R122 to R127: the predicates as bit tests, with the document's values. -/
def Obligations.TypePredicatesAreBitTests : Prop :=
  (∀ t : Word,
    (critical t = true ↔ t.extractLsb' 24 8 &&& 0x20#8 = 0#8) ∧
    (isPublic t = true ↔ t.extractLsb' 16 8 &&& 0x20#8 = 0#8) ∧
    (rsvok t = true ↔ t.extractLsb' 8 8 &&& 0x20#8 = 0#8) ∧
    (safe t = true ↔ t.extractLsb' 0 8 &&& 0x20#8 ≠ 0#8) ∧
    (tascii t = true ↔
      (t.extractLsb' 24 8).toNat ≤ 0x7F ∧ (t.extractLsb' 16 8).toNat ≤ 0x7F ∧
      (t.extractLsb' 8 8).toNat ≤ 0x7F ∧ (t.extractLsb' 0 8).toNat ≤ 0x7F) ∧
    (tvalid t = true ↔ tascii t = true ∧ rsvok t = true)) ∧
  critical 0x52755374#32 = true ∧ critical 0x72755374#32 = false ∧
  isPublic 0x52555374#32 = true ∧ isPublic 0x52755374#32 = false ∧
  rsvok 0x52755374#32 = true ∧ rsvok 0x52757374#32 = false ∧
  safe 0x52755374#32 = true ∧ safe 0x52755354#32 = false ∧
  tvalid 0x52755374#32 = true ∧ tvalid 0x52757374#32 = false

/-! ### Frames and containers -/

/-- R76, R77: four shifts of the same assembly leave the big-endian value of the four bytes whatever the register held, and
`BE32` is its inverse. -/
def Obligations.FieldAssemblyIsBigEndian : Prop :=
  ∀ (r n : Word) (b0 b1 b2 b3 : Byte),
    shiftIn (shiftIn (shiftIn (shiftIn r b0) b1) b2) b3 = b0 ++ b1 ++ b2 ++ b3 ∧
    (b0 ++ b1 ++ b2 ++ b3 : Word).toNat =
      b0.toNat * 2 ^ 24 + b1.toNat * 2 ^ 16 + b2.toNat * 2 ^ 8 + b3.toNat ∧
    (be32 n).foldl shiftIn r = n

/-- R133, R192, R83: the eight preamble bytes lead to a frame boundary when they are exactly the magic, and to DRAIN with
BadMagic otherwise, decided at the eighth byte. -/
def Obligations.PreambleIsDecidedAtTheEighthByte : Prop :=
  ∀ (s : State) (bs : List Byte) (rest : List StepInput),
    s.phase = .idle → s.ctrlParse = true → s.ctrlHdr = true → bs.length = 8 →
    s.inputs = bytesInputs bs ++ rest →
    ∃ t, runSteps 8 s = some (t, []) ∧ t.inputs = rest ∧
      elements t = elements { s with
        done := false, nfr := 0#32, cnt := 0#32
        phase := if bs = Config.magic then .len else .drain
        mbad := decide (bs ≠ Config.magic)
        err := if bs = Config.magic then 0#3 else 2#3 }

/-- R144: a serialized frame with a valid type, sent from a frame boundary, yields its header, its payload bytes in order and
`FRM(0, ...)`, and returns to a frame boundary with one more good frame. -/
def Obligations.SerializedFrameRoundTrips : Prop :=
  ∀ (s : State) (f : Frame) (bytes : List Byte) (rest : List StepInput),
    atBoundary s → s.err = 0#3 → tvalid f.typ = true → serialize f = some bytes →
    s.inputs = bytesInputs bytes ++ rest →
    ∃ t, runSteps bytes.length s = some (t,
        [.hdr (BitVec.ofNat 32 f.payload.length) f.typ] ++ f.payload.map .pay ++
        [.frm 0#3 (BitVec.ofNat 32 f.payload.length) f.typ (frameChecksum f) (frameChecksum f)]) ∧
      t.inputs = rest ∧
      elements t = elements { s with
        phase := .len, cnt := 0#32, len := BitVec.ofNat 32 f.payload.length, typ := f.typ
        crcRx := frameChecksum f, crc := frameChecksum f ^^^ 0xFFFFFFFF#32, nfr := s.nfr + 1#32 }

/-- R146, R193, R196: the same frame with any other checksum field fails, and a frame with an invalid type fails with any
checksum field; InvalidType comes before ChecksumMismatch. -/
def Obligations.TamperedFrameFails : Prop :=
  ∀ (s : State) (f : Frame) (c : Word) (bytes : List Byte) (rest : List StepInput),
    atBoundary s → tvalid f.typ = false ∨ c ≠ frameChecksum f → serializeWith f c = some bytes →
    s.inputs = bytesInputs bytes ++ rest →
    ∃ (t : State) (e : BitVec 3), e = (if tvalid f.typ then 4#3 else 3#3) ∧
      runSteps bytes.length s = some (t,
        [.hdr (BitVec.ofNat 32 f.payload.length) f.typ] ++ f.payload.map .pay ++
        [.frm e (BitVec.ofNat 32 f.payload.length) f.typ c (frameChecksum f)]) ∧
      t.inputs = rest ∧
      elements t = elements { s with
        phase := .drain, cnt := 0#32, len := BitVec.ofNat 32 f.payload.length, typ := f.typ
        crcRx := c, crc := frameChecksum f ^^^ 0xFFFFFFFF#32, err := e }

/-- R143, R144: a serialized container of frames with valid types parses to its frames: the consumer of R224 commits
exactly those frames in order, and `EOS` carries code 0 and their number modulo 2^32. -/
def Obligations.SerializedContainerRoundTrips : Prop :=
  ∀ (s : State) (fs : List Frame) (bytes : List Byte) (rest : List StepInput),
    s.phase = .idle → s.ctrlParse = true → s.ctrlHdr = true → (∀ f ∈ fs, tvalid f.typ = true) →
    serializeContainer fs = some bytes → s.inputs = streamInputs bytes ++ rest →
    ∃ (t : State) (es : List OutEvent), runSteps (bytes.length + 1) s = some (t, es) ∧
      consume [] [] es = some fs ∧ t.inputs = rest ∧ t.phase = .idle ∧ t.done = true ∧
      t.err = 0#3 ∧ t.nfr = BitVec.ofNat 32 fs.length

/-- R142, R143, R196: for EVERY byte stream in parse mode, the error code and the number of good frames the block reports are
those of the buffered parse over the whole stream. -/
def Obligations.StreamVerdictIsTheBufferedVerdict : Prop :=
  ∀ (s : State) (bs : List Byte) (rest : List StepInput) (r : ParseResult),
    s.phase = .idle → s.ctrlParse = true → r = (if s.ctrlHdr then parseContainer bs else parseBuffer bs) →
    s.inputs = streamInputs bs ++ rest →
    ∃ (t : State) (es : List OutEvent) (e : BitVec 3) (n shown : Word),
      e = (match r.error with
        | none => 0#3
        | some k => errorCode k) ∧
      n = BitVec.ofNat 32 r.frames.length ∧
      runSteps (bs.length + 1) s = some (t, es ++ [.eos e n shown]) ∧
      t.err = e ∧ t.nfr = n ∧ t.phase = .idle ∧ t.cnt = 0#32 ∧ t.done = true ∧ t.inputs = rest

/-- R2, R143, R224: the all-or-nothing contract. For every byte stream in parse mode, what a consumer that buffers and commits
on `EOS(0, ...)` delivers is the buffered parse's single result: all the frames, or nothing on any failure. -/
def Obligations.ConsumerGetsAllFramesOrNothing : Prop :=
  ∀ (s : State) (bs : List Byte) (rest : List StepInput),
    s.phase = .idle → s.ctrlParse = true → s.inputs = streamInputs bs ++ rest →
    ∃ (t : State) (es : List OutEvent), runSteps (bs.length + 1) s = some (t, es) ∧
      consume [] [] es = delivered (if s.ctrlHdr then parseContainer bs else parseBuffer bs)

/-- R74, R86, U1: the serialized form of a frame has 12 bytes more than its payload, and a payload of 2^32 bytes or more
has no serialized form and no trace expansion. -/
def Obligations.OversizedPayloadHasNoFrame : Prop :=
  ∀ (f : Frame) (c : Word) (text : List Char),
    (f.payload.length < 2 ^ 32 → ∃ bytes, serializeWith f c = some bytes ∧ bytes.length = 12 + f.payload.length) ∧
    (2 ^ 32 ≤ f.payload.length →
      serializeWith f c = none ∧ expand (.frame text f.payload) = none ∧
      expand (.frameX text f.payload c) = none)
end

