-- ==== Sys2Proof/Laws/State.lean ====
section
/-! SUPPORT. The fields of a state after each shared update of Machine/Ops.lean, one lemma per field per update. -/

namespace Sys2Proof.Machine

@[simp] theorem goTo_ctrlParse (p : Phase) (c : Word) (s : State) : (goTo p c s).ctrlParse = s.ctrlParse := rfl
@[simp] theorem goTo_ctrlHdr (p : Phase) (c : Word) (s : State) : (goTo p c s).ctrlHdr = s.ctrlHdr := rfl
@[simp] theorem goTo_phase (p : Phase) (c : Word) (s : State) : (goTo p c s).phase = p := rfl
@[simp] theorem goTo_cnt (p : Phase) (c : Word) (s : State) : (goTo p c s).cnt = c := rfl
@[simp] theorem goTo_len (p : Phase) (c : Word) (s : State) : (goTo p c s).len = s.len := rfl
@[simp] theorem goTo_typ (p : Phase) (c : Word) (s : State) : (goTo p c s).typ = s.typ := rfl
@[simp] theorem goTo_crcRx (p : Phase) (c : Word) (s : State) : (goTo p c s).crcRx = s.crcRx := rfl
@[simp] theorem goTo_crc (p : Phase) (c : Word) (s : State) : (goTo p c s).crc = s.crc := rfl
@[simp] theorem goTo_nfr (p : Phase) (c : Word) (s : State) : (goTo p c s).nfr = s.nfr := rfl
@[simp] theorem goTo_err (p : Phase) (c : Word) (s : State) : (goTo p c s).err = s.err := rfl
@[simp] theorem goTo_done (p : Phase) (c : Word) (s : State) : (goTo p c s).done = s.done := rfl
@[simp] theorem goTo_mbad (p : Phase) (c : Word) (s : State) : (goTo p c s).mbad = s.mbad := rfl
@[simp] theorem goTo_hRdata (p : Phase) (c : Word) (s : State) : (goTo p c s).hRdata = s.hRdata := rfl
@[simp] theorem goTo_events (p : Phase) (c : Word) (s : State) : (goTo p c s).events = s.events := rfl
@[simp] theorem goTo_inputs (p : Phase) (c : Word) (s : State) : (goTo p c s).inputs = s.inputs := rfl

@[simp] theorem shiftLen_ctrlParse (d : Byte) (s : State) : (shiftLen d s).ctrlParse = s.ctrlParse := rfl
@[simp] theorem shiftLen_ctrlHdr (d : Byte) (s : State) : (shiftLen d s).ctrlHdr = s.ctrlHdr := rfl
@[simp] theorem shiftLen_phase (d : Byte) (s : State) : (shiftLen d s).phase = s.phase := rfl
@[simp] theorem shiftLen_cnt (d : Byte) (s : State) : (shiftLen d s).cnt = s.cnt := rfl
@[simp] theorem shiftLen_len (d : Byte) (s : State) : (shiftLen d s).len = shiftIn s.len d := rfl
@[simp] theorem shiftLen_typ (d : Byte) (s : State) : (shiftLen d s).typ = s.typ := rfl
@[simp] theorem shiftLen_crcRx (d : Byte) (s : State) : (shiftLen d s).crcRx = s.crcRx := rfl
@[simp] theorem shiftLen_crc (d : Byte) (s : State) : (shiftLen d s).crc = s.crc := rfl
@[simp] theorem shiftLen_nfr (d : Byte) (s : State) : (shiftLen d s).nfr = s.nfr := rfl
@[simp] theorem shiftLen_err (d : Byte) (s : State) : (shiftLen d s).err = s.err := rfl
@[simp] theorem shiftLen_done (d : Byte) (s : State) : (shiftLen d s).done = s.done := rfl
@[simp] theorem shiftLen_mbad (d : Byte) (s : State) : (shiftLen d s).mbad = s.mbad := rfl
@[simp] theorem shiftLen_hRdata (d : Byte) (s : State) : (shiftLen d s).hRdata = s.hRdata := rfl
@[simp] theorem shiftLen_events (d : Byte) (s : State) : (shiftLen d s).events = s.events := rfl
@[simp] theorem shiftLen_inputs (d : Byte) (s : State) : (shiftLen d s).inputs = s.inputs := rfl

@[simp] theorem shiftTyp_ctrlParse (d : Byte) (s : State) : (shiftTyp d s).ctrlParse = s.ctrlParse := rfl
@[simp] theorem shiftTyp_ctrlHdr (d : Byte) (s : State) : (shiftTyp d s).ctrlHdr = s.ctrlHdr := rfl
@[simp] theorem shiftTyp_phase (d : Byte) (s : State) : (shiftTyp d s).phase = s.phase := rfl
@[simp] theorem shiftTyp_cnt (d : Byte) (s : State) : (shiftTyp d s).cnt = s.cnt := rfl
@[simp] theorem shiftTyp_len (d : Byte) (s : State) : (shiftTyp d s).len = s.len := rfl
@[simp] theorem shiftTyp_typ (d : Byte) (s : State) : (shiftTyp d s).typ = shiftIn s.typ d := rfl
@[simp] theorem shiftTyp_crcRx (d : Byte) (s : State) : (shiftTyp d s).crcRx = s.crcRx := rfl
@[simp] theorem shiftTyp_crc (d : Byte) (s : State) : (shiftTyp d s).crc = s.crc := rfl
@[simp] theorem shiftTyp_nfr (d : Byte) (s : State) : (shiftTyp d s).nfr = s.nfr := rfl
@[simp] theorem shiftTyp_err (d : Byte) (s : State) : (shiftTyp d s).err = s.err := rfl
@[simp] theorem shiftTyp_done (d : Byte) (s : State) : (shiftTyp d s).done = s.done := rfl
@[simp] theorem shiftTyp_mbad (d : Byte) (s : State) : (shiftTyp d s).mbad = s.mbad := rfl
@[simp] theorem shiftTyp_hRdata (d : Byte) (s : State) : (shiftTyp d s).hRdata = s.hRdata := rfl
@[simp] theorem shiftTyp_events (d : Byte) (s : State) : (shiftTyp d s).events = s.events := rfl
@[simp] theorem shiftTyp_inputs (d : Byte) (s : State) : (shiftTyp d s).inputs = s.inputs := rfl

@[simp] theorem shiftCrcRx_ctrlParse (d : Byte) (s : State) : (shiftCrcRx d s).ctrlParse = s.ctrlParse := rfl
@[simp] theorem shiftCrcRx_ctrlHdr (d : Byte) (s : State) : (shiftCrcRx d s).ctrlHdr = s.ctrlHdr := rfl
@[simp] theorem shiftCrcRx_phase (d : Byte) (s : State) : (shiftCrcRx d s).phase = s.phase := rfl
@[simp] theorem shiftCrcRx_cnt (d : Byte) (s : State) : (shiftCrcRx d s).cnt = s.cnt := rfl
@[simp] theorem shiftCrcRx_len (d : Byte) (s : State) : (shiftCrcRx d s).len = s.len := rfl
@[simp] theorem shiftCrcRx_typ (d : Byte) (s : State) : (shiftCrcRx d s).typ = s.typ := rfl
@[simp] theorem shiftCrcRx_crcRx (d : Byte) (s : State) : (shiftCrcRx d s).crcRx = shiftIn s.crcRx d := rfl
@[simp] theorem shiftCrcRx_crc (d : Byte) (s : State) : (shiftCrcRx d s).crc = s.crc := rfl
@[simp] theorem shiftCrcRx_nfr (d : Byte) (s : State) : (shiftCrcRx d s).nfr = s.nfr := rfl
@[simp] theorem shiftCrcRx_err (d : Byte) (s : State) : (shiftCrcRx d s).err = s.err := rfl
@[simp] theorem shiftCrcRx_done (d : Byte) (s : State) : (shiftCrcRx d s).done = s.done := rfl
@[simp] theorem shiftCrcRx_mbad (d : Byte) (s : State) : (shiftCrcRx d s).mbad = s.mbad := rfl
@[simp] theorem shiftCrcRx_hRdata (d : Byte) (s : State) : (shiftCrcRx d s).hRdata = s.hRdata := rfl
@[simp] theorem shiftCrcRx_events (d : Byte) (s : State) : (shiftCrcRx d s).events = s.events := rfl
@[simp] theorem shiftCrcRx_inputs (d : Byte) (s : State) : (shiftCrcRx d s).inputs = s.inputs := rfl

@[simp] theorem feedCrc_ctrlParse (d : Byte) (s : State) : (feedCrc d s).ctrlParse = s.ctrlParse := rfl
@[simp] theorem feedCrc_ctrlHdr (d : Byte) (s : State) : (feedCrc d s).ctrlHdr = s.ctrlHdr := rfl
@[simp] theorem feedCrc_phase (d : Byte) (s : State) : (feedCrc d s).phase = s.phase := rfl
@[simp] theorem feedCrc_cnt (d : Byte) (s : State) : (feedCrc d s).cnt = s.cnt := rfl
@[simp] theorem feedCrc_len (d : Byte) (s : State) : (feedCrc d s).len = s.len := rfl
@[simp] theorem feedCrc_typ (d : Byte) (s : State) : (feedCrc d s).typ = s.typ := rfl
@[simp] theorem feedCrc_crcRx (d : Byte) (s : State) : (feedCrc d s).crcRx = s.crcRx := rfl
@[simp] theorem feedCrc_crc (d : Byte) (s : State) : (feedCrc d s).crc = crcUpd s.crc d := rfl
@[simp] theorem feedCrc_nfr (d : Byte) (s : State) : (feedCrc d s).nfr = s.nfr := rfl
@[simp] theorem feedCrc_err (d : Byte) (s : State) : (feedCrc d s).err = s.err := rfl
@[simp] theorem feedCrc_done (d : Byte) (s : State) : (feedCrc d s).done = s.done := rfl
@[simp] theorem feedCrc_mbad (d : Byte) (s : State) : (feedCrc d s).mbad = s.mbad := rfl
@[simp] theorem feedCrc_hRdata (d : Byte) (s : State) : (feedCrc d s).hRdata = s.hRdata := rfl
@[simp] theorem feedCrc_events (d : Byte) (s : State) : (feedCrc d s).events = s.events := rfl
@[simp] theorem feedCrc_inputs (d : Byte) (s : State) : (feedCrc d s).inputs = s.inputs := rfl

@[simp] theorem presetCrc_ctrlParse (s : State) : (presetCrc s).ctrlParse = s.ctrlParse := rfl
@[simp] theorem presetCrc_ctrlHdr (s : State) : (presetCrc s).ctrlHdr = s.ctrlHdr := rfl
@[simp] theorem presetCrc_phase (s : State) : (presetCrc s).phase = s.phase := rfl
@[simp] theorem presetCrc_cnt (s : State) : (presetCrc s).cnt = s.cnt := rfl
@[simp] theorem presetCrc_len (s : State) : (presetCrc s).len = s.len := rfl
@[simp] theorem presetCrc_typ (s : State) : (presetCrc s).typ = s.typ := rfl
@[simp] theorem presetCrc_crcRx (s : State) : (presetCrc s).crcRx = s.crcRx := rfl
@[simp] theorem presetCrc_crc (s : State) : (presetCrc s).crc = Config.crcPreset := rfl
@[simp] theorem presetCrc_nfr (s : State) : (presetCrc s).nfr = s.nfr := rfl
@[simp] theorem presetCrc_err (s : State) : (presetCrc s).err = s.err := rfl
@[simp] theorem presetCrc_done (s : State) : (presetCrc s).done = s.done := rfl
@[simp] theorem presetCrc_mbad (s : State) : (presetCrc s).mbad = s.mbad := rfl
@[simp] theorem presetCrc_hRdata (s : State) : (presetCrc s).hRdata = s.hRdata := rfl
@[simp] theorem presetCrc_events (s : State) : (presetCrc s).events = s.events := rfl
@[simp] theorem presetCrc_inputs (s : State) : (presetCrc s).inputs = s.inputs := rfl

@[simp] theorem countFrame_ctrlParse (s : State) : (countFrame s).ctrlParse = s.ctrlParse := rfl
@[simp] theorem countFrame_ctrlHdr (s : State) : (countFrame s).ctrlHdr = s.ctrlHdr := rfl
@[simp] theorem countFrame_phase (s : State) : (countFrame s).phase = s.phase := rfl
@[simp] theorem countFrame_cnt (s : State) : (countFrame s).cnt = s.cnt := rfl
@[simp] theorem countFrame_len (s : State) : (countFrame s).len = s.len := rfl
@[simp] theorem countFrame_typ (s : State) : (countFrame s).typ = s.typ := rfl
@[simp] theorem countFrame_crcRx (s : State) : (countFrame s).crcRx = s.crcRx := rfl
@[simp] theorem countFrame_crc (s : State) : (countFrame s).crc = s.crc := rfl
@[simp] theorem countFrame_nfr (s : State) : (countFrame s).nfr = s.nfr + 1#32 := rfl
@[simp] theorem countFrame_err (s : State) : (countFrame s).err = s.err := rfl
@[simp] theorem countFrame_done (s : State) : (countFrame s).done = s.done := rfl
@[simp] theorem countFrame_mbad (s : State) : (countFrame s).mbad = s.mbad := rfl
@[simp] theorem countFrame_hRdata (s : State) : (countFrame s).hRdata = s.hRdata := rfl
@[simp] theorem countFrame_events (s : State) : (countFrame s).events = s.events := rfl
@[simp] theorem countFrame_inputs (s : State) : (countFrame s).inputs = s.inputs := rfl

@[simp] theorem noteMismatch_ctrlParse (c : Bool) (s : State) : (noteMismatch c s).ctrlParse = s.ctrlParse := rfl
@[simp] theorem noteMismatch_ctrlHdr (c : Bool) (s : State) : (noteMismatch c s).ctrlHdr = s.ctrlHdr := rfl
@[simp] theorem noteMismatch_phase (c : Bool) (s : State) : (noteMismatch c s).phase = s.phase := rfl
@[simp] theorem noteMismatch_cnt (c : Bool) (s : State) : (noteMismatch c s).cnt = s.cnt := rfl
@[simp] theorem noteMismatch_len (c : Bool) (s : State) : (noteMismatch c s).len = s.len := rfl
@[simp] theorem noteMismatch_typ (c : Bool) (s : State) : (noteMismatch c s).typ = s.typ := rfl
@[simp] theorem noteMismatch_crcRx (c : Bool) (s : State) : (noteMismatch c s).crcRx = s.crcRx := rfl
@[simp] theorem noteMismatch_crc (c : Bool) (s : State) : (noteMismatch c s).crc = s.crc := rfl
@[simp] theorem noteMismatch_nfr (c : Bool) (s : State) : (noteMismatch c s).nfr = s.nfr := rfl
@[simp] theorem noteMismatch_err (c : Bool) (s : State) : (noteMismatch c s).err = s.err := rfl
@[simp] theorem noteMismatch_done (c : Bool) (s : State) : (noteMismatch c s).done = s.done := rfl
@[simp] theorem noteMismatch_mbad (c : Bool) (s : State) : (noteMismatch c s).mbad = (s.mbad || c) := rfl
@[simp] theorem noteMismatch_hRdata (c : Bool) (s : State) : (noteMismatch c s).hRdata = s.hRdata := rfl
@[simp] theorem noteMismatch_events (c : Bool) (s : State) : (noteMismatch c s).events = s.events := rfl
@[simp] theorem noteMismatch_inputs (c : Bool) (s : State) : (noteMismatch c s).inputs = s.inputs := rfl

@[simp] theorem quietStream_ctrlParse (s : State) : (quietStream s).ctrlParse = s.ctrlParse := rfl
@[simp] theorem quietStream_ctrlHdr (s : State) : (quietStream s).ctrlHdr = s.ctrlHdr := rfl
@[simp] theorem quietStream_phase (s : State) : (quietStream s).phase = s.phase := rfl
@[simp] theorem quietStream_cnt (s : State) : (quietStream s).cnt = s.cnt := rfl
@[simp] theorem quietStream_len (s : State) : (quietStream s).len = s.len := rfl
@[simp] theorem quietStream_typ (s : State) : (quietStream s).typ = s.typ := rfl
@[simp] theorem quietStream_crcRx (s : State) : (quietStream s).crcRx = s.crcRx := rfl
@[simp] theorem quietStream_crc (s : State) : (quietStream s).crc = s.crc := rfl
@[simp] theorem quietStream_nfr (s : State) : (quietStream s).nfr = s.nfr := rfl
@[simp] theorem quietStream_err (s : State) : (quietStream s).err = s.err := rfl
@[simp] theorem quietStream_done (s : State) : (quietStream s).done = s.done := rfl
@[simp] theorem quietStream_mbad (s : State) : (quietStream s).mbad = s.mbad := rfl
@[simp] theorem quietStream_hRdata (s : State) : (quietStream s).hRdata = s.hRdata := rfl
@[simp] theorem quietStream_events (s : State) : (quietStream s).events = [] := rfl
@[simp] theorem quietStream_inputs (s : State) : (quietStream s).inputs = s.inputs := rfl

@[simp] theorem emit_ctrlParse (e : OutEvent) (s : State) : (emit e s).ctrlParse = s.ctrlParse := rfl
@[simp] theorem emit_ctrlHdr (e : OutEvent) (s : State) : (emit e s).ctrlHdr = s.ctrlHdr := rfl
@[simp] theorem emit_phase (e : OutEvent) (s : State) : (emit e s).phase = s.phase := rfl
@[simp] theorem emit_cnt (e : OutEvent) (s : State) : (emit e s).cnt = s.cnt := rfl
@[simp] theorem emit_len (e : OutEvent) (s : State) : (emit e s).len = s.len := rfl
@[simp] theorem emit_typ (e : OutEvent) (s : State) : (emit e s).typ = s.typ := rfl
@[simp] theorem emit_crcRx (e : OutEvent) (s : State) : (emit e s).crcRx = s.crcRx := rfl
@[simp] theorem emit_crc (e : OutEvent) (s : State) : (emit e s).crc = s.crc := rfl
@[simp] theorem emit_nfr (e : OutEvent) (s : State) : (emit e s).nfr = s.nfr := rfl
@[simp] theorem emit_err (e : OutEvent) (s : State) : (emit e s).err = s.err := rfl
@[simp] theorem emit_done (e : OutEvent) (s : State) : (emit e s).done = s.done := rfl
@[simp] theorem emit_mbad (e : OutEvent) (s : State) : (emit e s).mbad = s.mbad := rfl
@[simp] theorem emit_hRdata (e : OutEvent) (s : State) : (emit e s).hRdata = s.hRdata := rfl
@[simp] theorem emit_events (e : OutEvent) (s : State) : (emit e s).events = s.events ++ [e] := rfl
@[simp] theorem emit_inputs (e : OutEvent) (s : State) : (emit e s).inputs = s.inputs := rfl

@[simp] theorem driveRdata_ctrlParse (v : Word) (s : State) : (driveRdata v s).ctrlParse = s.ctrlParse := rfl
@[simp] theorem driveRdata_ctrlHdr (v : Word) (s : State) : (driveRdata v s).ctrlHdr = s.ctrlHdr := rfl
@[simp] theorem driveRdata_phase (v : Word) (s : State) : (driveRdata v s).phase = s.phase := rfl
@[simp] theorem driveRdata_cnt (v : Word) (s : State) : (driveRdata v s).cnt = s.cnt := rfl
@[simp] theorem driveRdata_len (v : Word) (s : State) : (driveRdata v s).len = s.len := rfl
@[simp] theorem driveRdata_typ (v : Word) (s : State) : (driveRdata v s).typ = s.typ := rfl
@[simp] theorem driveRdata_crcRx (v : Word) (s : State) : (driveRdata v s).crcRx = s.crcRx := rfl
@[simp] theorem driveRdata_crc (v : Word) (s : State) : (driveRdata v s).crc = s.crc := rfl
@[simp] theorem driveRdata_nfr (v : Word) (s : State) : (driveRdata v s).nfr = s.nfr := rfl
@[simp] theorem driveRdata_err (v : Word) (s : State) : (driveRdata v s).err = s.err := rfl
@[simp] theorem driveRdata_done (v : Word) (s : State) : (driveRdata v s).done = s.done := rfl
@[simp] theorem driveRdata_mbad (v : Word) (s : State) : (driveRdata v s).mbad = s.mbad := rfl
@[simp] theorem driveRdata_hRdata (v : Word) (s : State) : (driveRdata v s).hRdata = v := rfl
@[simp] theorem driveRdata_events (v : Word) (s : State) : (driveRdata v s).events = s.events := rfl
@[simp] theorem driveRdata_inputs (v : Word) (s : State) : (driveRdata v s).inputs = s.inputs := rfl

@[simp] theorem raiseError_ctrlParse (e : ErrorKind) (s : State) : (raiseError e s).ctrlParse = s.ctrlParse := rfl
@[simp] theorem raiseError_ctrlHdr (e : ErrorKind) (s : State) : (raiseError e s).ctrlHdr = s.ctrlHdr := rfl
@[simp] theorem raiseError_phase (e : ErrorKind) (s : State) : (raiseError e s).phase = s.phase := rfl
@[simp] theorem raiseError_cnt (e : ErrorKind) (s : State) : (raiseError e s).cnt = s.cnt := rfl
@[simp] theorem raiseError_len (e : ErrorKind) (s : State) : (raiseError e s).len = s.len := rfl
@[simp] theorem raiseError_typ (e : ErrorKind) (s : State) : (raiseError e s).typ = s.typ := rfl
@[simp] theorem raiseError_crcRx (e : ErrorKind) (s : State) : (raiseError e s).crcRx = s.crcRx := rfl
@[simp] theorem raiseError_crc (e : ErrorKind) (s : State) : (raiseError e s).crc = s.crc := rfl
@[simp] theorem raiseError_nfr (e : ErrorKind) (s : State) : (raiseError e s).nfr = s.nfr := rfl
@[simp] theorem raiseError_err (e : ErrorKind) (s : State) : (raiseError e s).err = errorCode e := rfl
@[simp] theorem raiseError_done (e : ErrorKind) (s : State) : (raiseError e s).done = s.done := rfl
@[simp] theorem raiseError_mbad (e : ErrorKind) (s : State) : (raiseError e s).mbad = s.mbad := rfl
@[simp] theorem raiseError_hRdata (e : ErrorKind) (s : State) : (raiseError e s).hRdata = s.hRdata := rfl
@[simp] theorem raiseError_events (e : ErrorKind) (s : State) : (raiseError e s).events = s.events := rfl
@[simp] theorem raiseError_inputs (e : ErrorKind) (s : State) : (raiseError e s).inputs = s.inputs := rfl

@[simp] theorem takeError_ctrlParse (e : ErrorKind) (s : State) : (takeError e s).ctrlParse = s.ctrlParse := rfl
@[simp] theorem takeError_ctrlHdr (e : ErrorKind) (s : State) : (takeError e s).ctrlHdr = s.ctrlHdr := rfl
@[simp] theorem takeError_phase (e : ErrorKind) (s : State) : (takeError e s).phase = .drain := rfl
@[simp] theorem takeError_cnt (e : ErrorKind) (s : State) : (takeError e s).cnt = 0#32 := rfl
@[simp] theorem takeError_len (e : ErrorKind) (s : State) : (takeError e s).len = s.len := rfl
@[simp] theorem takeError_typ (e : ErrorKind) (s : State) : (takeError e s).typ = s.typ := rfl
@[simp] theorem takeError_crcRx (e : ErrorKind) (s : State) : (takeError e s).crcRx = s.crcRx := rfl
@[simp] theorem takeError_crc (e : ErrorKind) (s : State) : (takeError e s).crc = s.crc := rfl
@[simp] theorem takeError_nfr (e : ErrorKind) (s : State) : (takeError e s).nfr = s.nfr := rfl
@[simp] theorem takeError_err (e : ErrorKind) (s : State) : (takeError e s).err = errorCode e := rfl
@[simp] theorem takeError_done (e : ErrorKind) (s : State) : (takeError e s).done = s.done := rfl
@[simp] theorem takeError_mbad (e : ErrorKind) (s : State) : (takeError e s).mbad = s.mbad := rfl
@[simp] theorem takeError_hRdata (e : ErrorKind) (s : State) : (takeError e s).hRdata = s.hRdata := rfl
@[simp] theorem takeError_events (e : ErrorKind) (s : State) : (takeError e s).events = s.events := rfl
@[simp] theorem takeError_inputs (e : ErrorKind) (s : State) : (takeError e s).inputs = s.inputs := rfl

@[simp] theorem endStreamNow_ctrlParse (s : State) : (endStreamNow s).ctrlParse = s.ctrlParse := rfl
@[simp] theorem endStreamNow_ctrlHdr (s : State) : (endStreamNow s).ctrlHdr = s.ctrlHdr := rfl
@[simp] theorem endStreamNow_phase (s : State) : (endStreamNow s).phase = .idle := rfl
@[simp] theorem endStreamNow_cnt (s : State) : (endStreamNow s).cnt = 0#32 := rfl
@[simp] theorem endStreamNow_len (s : State) : (endStreamNow s).len = s.len := rfl
@[simp] theorem endStreamNow_typ (s : State) : (endStreamNow s).typ = s.typ := rfl
@[simp] theorem endStreamNow_crcRx (s : State) : (endStreamNow s).crcRx = s.crcRx := rfl
@[simp] theorem endStreamNow_crc (s : State) : (endStreamNow s).crc = s.crc := rfl
@[simp] theorem endStreamNow_nfr (s : State) : (endStreamNow s).nfr = s.nfr := rfl
@[simp] theorem endStreamNow_err (s : State) : (endStreamNow s).err = s.err := rfl
@[simp] theorem endStreamNow_done (s : State) : (endStreamNow s).done = true := rfl
@[simp] theorem endStreamNow_mbad (s : State) : (endStreamNow s).mbad = s.mbad := rfl
@[simp] theorem endStreamNow_hRdata (s : State) : (endStreamNow s).hRdata = s.hRdata := rfl
@[simp] theorem endStreamNow_events (s : State) : (endStreamNow s).events = s.events ++ [eosOf s] := rfl
@[simp] theorem endStreamNow_inputs (s : State) : (endStreamNow s).inputs = s.inputs := rfl

@[simp] theorem clearStream_ctrlParse (s : State) : (clearStream s).ctrlParse = s.ctrlParse := rfl
@[simp] theorem clearStream_ctrlHdr (s : State) : (clearStream s).ctrlHdr = s.ctrlHdr := rfl
@[simp] theorem clearStream_phase (s : State) : (clearStream s).phase = .idle := rfl
@[simp] theorem clearStream_cnt (s : State) : (clearStream s).cnt = 0#32 := rfl
@[simp] theorem clearStream_len (s : State) : (clearStream s).len = 0#32 := rfl
@[simp] theorem clearStream_typ (s : State) : (clearStream s).typ = 0#32 := rfl
@[simp] theorem clearStream_crcRx (s : State) : (clearStream s).crcRx = 0#32 := rfl
@[simp] theorem clearStream_crc (s : State) : (clearStream s).crc = Config.crcPreset := rfl
@[simp] theorem clearStream_nfr (s : State) : (clearStream s).nfr = 0#32 := rfl
@[simp] theorem clearStream_err (s : State) : (clearStream s).err = 0#3 := rfl
@[simp] theorem clearStream_done (s : State) : (clearStream s).done = false := rfl
@[simp] theorem clearStream_mbad (s : State) : (clearStream s).mbad = false := rfl
@[simp] theorem clearStream_hRdata (s : State) : (clearStream s).hRdata = s.hRdata := rfl
@[simp] theorem clearStream_events (s : State) : (clearStream s).events = s.events := rfl
@[simp] theorem clearStream_inputs (s : State) : (clearStream s).inputs = s.inputs := rfl

@[simp] theorem resetAll_ctrlParse (s : State) : (resetAll s).ctrlParse = false := rfl
@[simp] theorem resetAll_ctrlHdr (s : State) : (resetAll s).ctrlHdr = false := rfl
@[simp] theorem resetAll_phase (s : State) : (resetAll s).phase = .idle := rfl
@[simp] theorem resetAll_cnt (s : State) : (resetAll s).cnt = 0#32 := rfl
@[simp] theorem resetAll_len (s : State) : (resetAll s).len = 0#32 := rfl
@[simp] theorem resetAll_typ (s : State) : (resetAll s).typ = 0#32 := rfl
@[simp] theorem resetAll_crcRx (s : State) : (resetAll s).crcRx = 0#32 := rfl
@[simp] theorem resetAll_crc (s : State) : (resetAll s).crc = Config.crcPreset := rfl
@[simp] theorem resetAll_nfr (s : State) : (resetAll s).nfr = 0#32 := rfl
@[simp] theorem resetAll_err (s : State) : (resetAll s).err = 0#3 := rfl
@[simp] theorem resetAll_done (s : State) : (resetAll s).done = false := rfl
@[simp] theorem resetAll_mbad (s : State) : (resetAll s).mbad = false := rfl
@[simp] theorem resetAll_hRdata (s : State) : (resetAll s).hRdata = 0#32 := rfl
@[simp] theorem resetAll_events (s : State) : (resetAll s).events = [] := rfl
@[simp] theorem resetAll_inputs (s : State) : (resetAll s).inputs = s.inputs := rfl

@[simp] theorem dropInput_ctrlParse (s : State) : (dropInput s).ctrlParse = s.ctrlParse := rfl
@[simp] theorem dropInput_ctrlHdr (s : State) : (dropInput s).ctrlHdr = s.ctrlHdr := rfl
@[simp] theorem dropInput_phase (s : State) : (dropInput s).phase = s.phase := rfl
@[simp] theorem dropInput_cnt (s : State) : (dropInput s).cnt = s.cnt := rfl
@[simp] theorem dropInput_len (s : State) : (dropInput s).len = s.len := rfl
@[simp] theorem dropInput_typ (s : State) : (dropInput s).typ = s.typ := rfl
@[simp] theorem dropInput_crcRx (s : State) : (dropInput s).crcRx = s.crcRx := rfl
@[simp] theorem dropInput_crc (s : State) : (dropInput s).crc = s.crc := rfl
@[simp] theorem dropInput_nfr (s : State) : (dropInput s).nfr = s.nfr := rfl
@[simp] theorem dropInput_err (s : State) : (dropInput s).err = s.err := rfl
@[simp] theorem dropInput_done (s : State) : (dropInput s).done = s.done := rfl
@[simp] theorem dropInput_mbad (s : State) : (dropInput s).mbad = s.mbad := rfl
@[simp] theorem dropInput_hRdata (s : State) : (dropInput s).hRdata = s.hRdata := rfl
@[simp] theorem dropInput_events (s : State) : (dropInput s).events = s.events := rfl
@[simp] theorem dropInput_inputs (s : State) : (dropInput s).inputs = s.inputs.tail := rfl

@[simp] theorem presentInput_ctrlParse (q : StepInput) (s : State) : (presentInput q s).ctrlParse = s.ctrlParse := rfl
@[simp] theorem presentInput_ctrlHdr (q : StepInput) (s : State) : (presentInput q s).ctrlHdr = s.ctrlHdr := rfl
@[simp] theorem presentInput_phase (q : StepInput) (s : State) : (presentInput q s).phase = s.phase := rfl
@[simp] theorem presentInput_cnt (q : StepInput) (s : State) : (presentInput q s).cnt = s.cnt := rfl
@[simp] theorem presentInput_len (q : StepInput) (s : State) : (presentInput q s).len = s.len := rfl
@[simp] theorem presentInput_typ (q : StepInput) (s : State) : (presentInput q s).typ = s.typ := rfl
@[simp] theorem presentInput_crcRx (q : StepInput) (s : State) : (presentInput q s).crcRx = s.crcRx := rfl
@[simp] theorem presentInput_crc (q : StepInput) (s : State) : (presentInput q s).crc = s.crc := rfl
@[simp] theorem presentInput_nfr (q : StepInput) (s : State) : (presentInput q s).nfr = s.nfr := rfl
@[simp] theorem presentInput_err (q : StepInput) (s : State) : (presentInput q s).err = s.err := rfl
@[simp] theorem presentInput_done (q : StepInput) (s : State) : (presentInput q s).done = s.done := rfl
@[simp] theorem presentInput_mbad (q : StepInput) (s : State) : (presentInput q s).mbad = s.mbad := rfl
@[simp] theorem presentInput_hRdata (q : StepInput) (s : State) : (presentInput q s).hRdata = s.hRdata := rfl
@[simp] theorem presentInput_events (q : StepInput) (s : State) : (presentInput q s).events = s.events := rfl
@[simp] theorem presentInput_inputs (q : StepInput) (s : State) : (presentInput q s).inputs = q :: s.inputs := rfl

@[simp] theorem quietPorts_ctrlParse (s : State) : (quietPorts s).ctrlParse = s.ctrlParse := rfl
@[simp] theorem quietPorts_ctrlHdr (s : State) : (quietPorts s).ctrlHdr = s.ctrlHdr := rfl
@[simp] theorem quietPorts_phase (s : State) : (quietPorts s).phase = s.phase := rfl
@[simp] theorem quietPorts_cnt (s : State) : (quietPorts s).cnt = s.cnt := rfl
@[simp] theorem quietPorts_len (s : State) : (quietPorts s).len = s.len := rfl
@[simp] theorem quietPorts_typ (s : State) : (quietPorts s).typ = s.typ := rfl
@[simp] theorem quietPorts_crcRx (s : State) : (quietPorts s).crcRx = s.crcRx := rfl
@[simp] theorem quietPorts_crc (s : State) : (quietPorts s).crc = s.crc := rfl
@[simp] theorem quietPorts_nfr (s : State) : (quietPorts s).nfr = s.nfr := rfl
@[simp] theorem quietPorts_err (s : State) : (quietPorts s).err = s.err := rfl
@[simp] theorem quietPorts_done (s : State) : (quietPorts s).done = s.done := rfl
@[simp] theorem quietPorts_mbad (s : State) : (quietPorts s).mbad = s.mbad := rfl
@[simp] theorem quietPorts_hRdata (s : State) : (quietPorts s).hRdata = 0#32 := rfl
@[simp] theorem quietPorts_events (s : State) : (quietPorts s).events = [] := rfl
@[simp] theorem quietPorts_inputs (s : State) : (quietPorts s).inputs = s.inputs := rfl

@[simp] theorem startStream_ctrlParse (s : State) : (startStream s).ctrlParse = s.ctrlParse := rfl
@[simp] theorem startStream_ctrlHdr (s : State) : (startStream s).ctrlHdr = s.ctrlHdr := rfl
@[simp] theorem startStream_phase (s : State) : (startStream s).phase = startPhase s := rfl
@[simp] theorem startStream_cnt (s : State) : (startStream s).cnt = 0#32 := rfl
@[simp] theorem startStream_len (s : State) : (startStream s).len = s.len := rfl
@[simp] theorem startStream_typ (s : State) : (startStream s).typ = s.typ := rfl
@[simp] theorem startStream_crcRx (s : State) : (startStream s).crcRx = s.crcRx := rfl
@[simp] theorem startStream_crc (s : State) : (startStream s).crc = startCrc s := rfl
@[simp] theorem startStream_nfr (s : State) : (startStream s).nfr = 0#32 := rfl
@[simp] theorem startStream_err (s : State) : (startStream s).err = 0#3 := rfl
@[simp] theorem startStream_done (s : State) : (startStream s).done = false := rfl
@[simp] theorem startStream_mbad (s : State) : (startStream s).mbad = false := rfl
@[simp] theorem startStream_hRdata (s : State) : (startStream s).hRdata = s.hRdata := rfl
@[simp] theorem startStream_events (s : State) : (startStream s).events = s.events := rfl
@[simp] theorem startStream_inputs (s : State) : (startStream s).inputs = s.inputs := rfl

/-- The phase a stream starts in is never IDLE (R132), nor one of the later phases of a frame. -/
theorem startPhase_cases (s : State) :
    (s.ctrlParse = false ∧ startPhase s = .raw) ∨
    (s.ctrlParse = true ∧ s.ctrlHdr = true ∧ startPhase s = .magic) ∨
    (s.ctrlParse = true ∧ s.ctrlHdr = false ∧ startPhase s = .len) := by
  unfold startPhase
  cases s.ctrlParse <;> cases s.ctrlHdr <;> simp

end Sys2Proof.Machine
end

