-- ==== Sys2Proof/Laws/Ops.lean ====
section
/-! SUPPORT. What each shared operation of Machine/Ops.lean and Machine/Crc.lean can do, one lemma per operation. -/

namespace Sys2Proof.Machine

/-! ### Outcomes -/

@[simp] theorem andThen_next (s : State) (k : State → Host.Outcome State Fault Refusal) :
    andThen (.next s) k = k s := rfl

/-- A sequence answers a next state exactly when both parts do. -/
theorem andThen_eq_next {o : Host.Outcome State Fault Refusal}
    {k : State → Host.Outcome State Fault Refusal} {t : State} :
    andThen o k = .next t ↔ ∃ s, o = .next s ∧ k s = .next t := by
  cases o <;> simp [andThen]

/-! ### Codes -/

/-- No error has code 0 (R190). -/
theorem errorCode_ne_zero (e : ErrorKind) : errorCode e ≠ 0#3 := by cases e <;> decide

/-- The phase codes are all different (R22). -/
theorem phaseCode_injective {p q : Phase} (h : phaseCode p = phaseCode q) : p = q := by
  cases p <;> cases q <;> first | rfl | exact absurd h (by decide)

/-! ### The preamble and the CRC -/

/-- `MAGIC[i]` where the preamble has a byte of that number (R79). -/
theorem magicByte_of_get {i : Word} {m : Byte} (h : Config.magic[i.toNat]? = some m) : magicByte i = m := by
  unfold magicByte; rw [h]

@[simp] theorem crcFeed_nil (c : Word) : crcFeed c [] = c := rfl

@[simp] theorem crcFeed_cons (c : Word) (d : Byte) (bs : List Byte) :
    crcFeed c (d :: bs) = crcFeed (crcUpd c d) bs := rfl

theorem crcFeed_append (c : Word) (as bs : List Byte) :
    crcFeed c (as ++ bs) = crcFeed (crcFeed c as) bs := by
  simp [crcFeed, List.foldl_append]

/-- The final XOR is its own inverse (R103). -/
@[simp] theorem crcShown_crcShown (c : Word) : crcShown (crcShown c) = c := by
  simp [crcShown]

theorem crcShown_xor (c : Word) : crcShown c ^^^ 0xFFFFFFFF#32 = c := crcShown_crcShown c

/-! ### Stream start -/

/-- What `startIfIdle` does: `start_stream` in IDLE, nothing in another phase (R131, R132). -/
theorem startIfIdle_cases (s : State) :
    (s.phase = .idle ∧ startIfIdle s = startStream s) ∨ (s.phase ≠ .idle ∧ startIfIdle s = s) := by
  unfold startIfIdle; split <;> simp_all

@[simp] theorem startIfIdle_idle {s : State} (h : s.phase = .idle) : startIfIdle s = startStream s := by
  simp [startIfIdle, h]

@[simp] theorem startIfIdle_busy {s : State} (h : s.phase ≠ .idle) : startIfIdle s = s := by
  simp [startIfIdle, h]

/-- After `startIfIdle` the phase is not IDLE (R132: "the phase is never IDLE, so the case is complete"). -/
theorem startIfIdle_phase_ne_idle (s : State) : (startIfIdle s).phase ≠ .idle := by
  rcases startIfIdle_cases s with ⟨_, h⟩ | ⟨hp, h⟩ <;> rw [h]
  · rcases startPhase_cases s with ⟨_, h⟩ | ⟨_, _, h⟩ | ⟨_, _, h⟩ <;> simp [h]
  · exact hp

@[simp] theorem startIfIdle_inputs (s : State) : (startIfIdle s).inputs = s.inputs := by
  rcases startIfIdle_cases s with ⟨_, h⟩ | ⟨_, h⟩ <;> simp [h]
@[simp] theorem startIfIdle_hRdata (s : State) : (startIfIdle s).hRdata = s.hRdata := by
  rcases startIfIdle_cases s with ⟨_, h⟩ | ⟨_, h⟩ <;> simp [h]
@[simp] theorem startIfIdle_events (s : State) : (startIfIdle s).events = s.events := by
  rcases startIfIdle_cases s with ⟨_, h⟩ | ⟨_, h⟩ <;> simp [h]
@[simp] theorem startIfIdle_ctrlParse (s : State) : (startIfIdle s).ctrlParse = s.ctrlParse := by
  rcases startIfIdle_cases s with ⟨_, h⟩ | ⟨_, h⟩ <;> simp [h]
@[simp] theorem startIfIdle_ctrlHdr (s : State) : (startIfIdle s).ctrlHdr = s.ctrlHdr := by
  rcases startIfIdle_cases s with ⟨_, h⟩ | ⟨_, h⟩ <;> simp [h]

/-! ### The input of a step -/

theorem nextInput_of_inputs {s : State} {p : StepInput} {rest : List StepInput} (h : s.inputs = p :: rest) :
    nextInput s = p := by simp [nextInput, h]

theorem nextInput_of_none {s : State} (h : s.inputs = []) : nextInput s = idleInput := by
  simp [nextInput, h]

theorem dropInput_of_inputs {s : State} {p : StepInput} {rest : List StepInput} (h : s.inputs = p :: rest) :
    dropInput s = { s with inputs := rest } := by simp [dropInput, h]

end Sys2Proof.Machine
end

