-- ==== Sys2Proof/Laws/Host.lean ====
section
/-! SUPPORT. What the accesses of the host port can do. -/

namespace Sys2Proof.Machine

/-- What a write of CTRL can do (R181). -/
theorem writeCtrl_cases (v : Word) (s : State) :
    (s.phase = .idle ∧ writeCtrl v s = { s with ctrlParse := v.getLsbD 0, ctrlHdr := v.getLsbD 1 }) ∨
    (s.phase ≠ .idle ∧ writeCtrl v s = s) := by
  by_cases h : s.phase = .idle
  · exact .inl ⟨h, by simp [writeCtrl, h, parseBit, hdrBit]⟩
  · exact .inr ⟨h, by simp [writeCtrl, h]⟩

/-- What a write of CMD can do (R182). -/
theorem writeCmd_cases (v : Word) (s : State) :
    (v.getLsbD 0 = true ∧ writeCmd v s = clearStream s) ∨ (v.getLsbD 0 = false ∧ writeCmd v s = s) := by
  unfold writeCmd clrBit; cases h : v.getLsbD 0
  · exact .inr ⟨rfl, rfl⟩
  · exact .inl ⟨rfl, rfl⟩

/-- What a write of a word can do (R181 to R183). -/
theorem regWrite_cases (a : RegAddr) (v : Word) (s : State) :
    (a = 0#4 ∧ regWrite a v s = writeCtrl v s) ∨ (a = 1#4 ∧ regWrite a v s = writeCmd v s) ∨
    (a ≠ 0#4 ∧ a ≠ 1#4 ∧ regWrite a v s = s) := by
  unfold regWrite
  split
  · exact .inl ⟨BitVec.eq_of_toNat_eq (by simpa), rfl⟩
  · exact .inr (.inl ⟨BitVec.eq_of_toNat_eq (by simpa), rfl⟩)
  · exact .inr (.inr ⟨by rintro rfl; simp_all, by rintro rfl; simp_all, rfl⟩)

/-- A write leaves both output sides and the coming inputs alone. -/
theorem regWrite_keeps (a : RegAddr) (v : Word) (s : State) :
    (regWrite a v s).inputs = s.inputs ∧ (regWrite a v s).hRdata = s.hRdata ∧
    (regWrite a v s).events = s.events := by
  obtain ⟨_, h⟩ | ⟨_, h⟩ | ⟨_, _, h⟩ := regWrite_cases a v s <;> rw [h]
  · obtain ⟨_, h⟩ | ⟨_, h⟩ := writeCtrl_cases v s <;> simp [h]
  · obtain ⟨_, h⟩ | ⟨_, h⟩ := writeCmd_cases v s <;> simp [h]
  · simp

/-- A read access drives the word and changes no element (R171). -/
theorem readAccess_eq (a : RegAddr) (s : State) : readAccess a s = { s with hRdata := regRead a s } := rfl

/-- A write access drives 0 (R70). -/
theorem writeAccess_hRdata (a : RegAddr) (v : Word) (s : State) : (writeAccess a v s).hRdata = 0#32 := rfl

end Sys2Proof.Machine
end

