-- ==== Sys2Proof/Laws/Stream.lean ====
section
/-! SUPPORT. What the arms of PUSH and END can do (one inversion lemma each, in the named updates of Machine/Ops.lean), and what
no beat touches. -/

namespace Sys2Proof.Machine

/-! ### PUSH, arm by arm -/

/-- PUSH in MAGIC: the mismatch is noted, then the eighth byte decides and any other byte counts (R133). -/
theorem pushMagic_cases (d : Byte) (s : State) :
    ∃ s1, s1 = noteMismatch (d != magicByte s.cnt) s ∧
      ((s.cnt = 7#32 ∧ s1.mbad = true ∧ pushMagic d s = takeError .badMagic s1) ∨
       (s.cnt = 7#32 ∧ s1.mbad = false ∧ pushMagic d s = goTo .len 0#32 s1) ∨
       (s.cnt ≠ 7#32 ∧ pushMagic d s = goTo s.phase (s.cnt + 1#32) s1)) := by
  refine ⟨_, rfl, ?_⟩
  by_cases hc : s.cnt = 7#32
  · cases hb : (noteMismatch (d != magicByte s.cnt) s).mbad <;> simp_all [pushMagic]
  · exact .inr (.inr ⟨hc, by simp [pushMagic, hc]⟩)

/-- PUSH in LEN (R134). -/
theorem pushLen_cases (d : Byte) (s : State) :
    (s.cnt = 3#32 ∧ pushLen d s = presetCrc (goTo .typ 0#32 (shiftLen d s))) ∨
    (s.cnt ≠ 3#32 ∧ pushLen d s = goTo s.phase (s.cnt + 1#32) (shiftLen d s)) := by
  by_cases hc : s.cnt = 3#32 <;> simp [pushLen, hc]

/-- PUSH in TYPE (R135). -/
theorem pushTyp_cases (d : Byte) (s : State) :
    ∃ s1, s1 = feedCrc d (shiftTyp d s) ∧
      ((s.cnt = 3#32 ∧ s.len = 0#32 ∧ pushTyp d s = emit (.hdr s.len s1.typ) (goTo .crcf 0#32 s1)) ∨
       (s.cnt = 3#32 ∧ s.len ≠ 0#32 ∧ pushTyp d s = emit (.hdr s.len s1.typ) (goTo .pay s.len s1)) ∨
       (s.cnt ≠ 3#32 ∧ pushTyp d s = goTo s.phase (s.cnt + 1#32) s1)) := by
  refine ⟨_, rfl, ?_⟩
  by_cases hc : s.cnt = 3#32 <;> by_cases hl : s.len = 0#32 <;> simp [pushTyp, hc, hl]

/-- PUSH in PAY (R136). -/
theorem pushPay_cases (d : Byte) (s : State) :
    ∃ s1, s1 = emit (.pay d) (feedCrc d s) ∧
      ((s.cnt = 1#32 ∧ pushPay d s = goTo .crcf 0#32 s1) ∨
       (s.cnt ≠ 1#32 ∧ pushPay d s = goTo s.phase (s.cnt - 1#32) s1)) := by
  refine ⟨_, rfl, ?_⟩
  by_cases hc : s.cnt = 1#32 <;> simp [pushPay, hc]

/-- The verdict: InvalidType, then ChecksumMismatch, then a good frame (R137, R196). -/
theorem judgeFrame_cases (s : State) :
    (tvalid s.typ = false ∧ judgeFrame s = takeError .invalidType s) ∨
    (tvalid s.typ = true ∧ s.crcRx ≠ calcOf s ∧ judgeFrame s = takeError .checksumMismatch s) ∨
    (tvalid s.typ = true ∧ s.crcRx = calcOf s ∧ judgeFrame s = goTo .len 0#32 (countFrame s)) := by
  cases ht : tvalid s.typ <;> by_cases hc : s.crcRx = calcOf s <;> simp [judgeFrame, ht, hc]

/-- PUSH in CRCF (R137). -/
theorem pushCrcf_cases (d : Byte) (s : State) :
    ∃ s1, s1 = shiftCrcRx d s ∧
      ((s.cnt = 3#32 ∧ pushCrcf d s = emit (frmOf (judgeFrame s1)) (judgeFrame s1)) ∨
       (s.cnt ≠ 3#32 ∧ pushCrcf d s = goTo s.phase (s.cnt + 1#32) s1)) := by
  refine ⟨_, rfl, ?_⟩
  by_cases hc : s.cnt = 3#32 <;> simp [pushCrcf, hc]

/-- Which arm runs (R132). -/
theorem pushArm_cases (d : Byte) (s : State) :
    (s.phase = .idle ∧ pushArm d s = s) ∨
    (s.phase = .raw ∧ pushArm d s = feedCrc d s) ∨
    (s.phase = .magic ∧ pushArm d s = pushMagic d s) ∨
    (s.phase = .len ∧ pushArm d s = pushLen d s) ∨
    (s.phase = .typ ∧ pushArm d s = pushTyp d s) ∨
    (s.phase = .pay ∧ pushArm d s = pushPay d s) ∨
    (s.phase = .crcf ∧ pushArm d s = pushCrcf d s) ∨
    (s.phase = .drain ∧ pushArm d s = s) := by
  cases h : s.phase <;> simp [pushArm, h, pushRaw, pushDrain]

/-! ### END -/

/-- END after the start: an error at most, then the end of the stream (R139, R140, R105). -/
theorem endBeat_cases (s : State) :
    ∃ s1, s1 = startIfIdle s ∧
      ((endIsShort s1 = true ∧ endBeat s = endStreamNow (raiseError .tooShort s1)) ∨
       (endIsShort s1 = false ∧ endBeat s = endStreamNow s1)) := by
  refine ⟨_, rfl, ?_⟩
  by_cases hr : (startIfIdle s).phase = .raw
  · exact .inr ⟨by simp [endIsShort, hr], by simp [endBeat, hr, endRaw]⟩
  · cases he : endIsShort (startIfIdle s) <;> simp [endBeat, hr, endParse, he]

/-! ### What no beat touches -/

/-- The second state has the first one's coming inputs, host-side output and CTRL bits (R21, R70, R131). -/
abbrev SameOffStream (s t : State) : Prop :=
  t.inputs = s.inputs ∧ t.hRdata = s.hRdata ∧ t.ctrlParse = s.ctrlParse ∧ t.ctrlHdr = s.ctrlHdr

theorem pushMagic_keeps (d : Byte) (s : State) : SameOffStream s (pushMagic d s) := by
  obtain ⟨s1, rfl, decided | decided | counted⟩ := pushMagic_cases d s
  · simp [SameOffStream, decided.2.2]
  · simp [SameOffStream, decided.2.2]
  · simp [SameOffStream, counted.2]

theorem pushLen_keeps (d : Byte) (s : State) : SameOffStream s (pushLen d s) := by
  rcases pushLen_cases d s with complete | partly
  · simp [SameOffStream, complete.2]
  · simp [SameOffStream, partly.2]

theorem pushTyp_keeps (d : Byte) (s : State) : SameOffStream s (pushTyp d s) := by
  obtain ⟨s1, rfl, empty | payload | partly⟩ := pushTyp_cases d s
  · simp [SameOffStream, empty.2.2]
  · simp [SameOffStream, payload.2.2]
  · simp [SameOffStream, partly.2]

theorem pushPay_keeps (d : Byte) (s : State) : SameOffStream s (pushPay d s) := by
  obtain ⟨s1, rfl, last | inner⟩ := pushPay_cases d s
  · simp [SameOffStream, last.2]
  · simp [SameOffStream, inner.2]

theorem judgeFrame_keeps (s : State) : SameOffStream s (judgeFrame s) := by
  rcases judgeFrame_cases s with badType | badSum | good
  · simp [SameOffStream, badType.2]
  · simp [SameOffStream, badSum.2.2]
  · simp [SameOffStream, good.2.2]

theorem pushCrcf_keeps (d : Byte) (s : State) : SameOffStream s (pushCrcf d s) := by
  obtain ⟨s1, rfl, judged | partly⟩ := pushCrcf_cases d s
  · simpa [SameOffStream, judged.2] using judgeFrame_keeps (shiftCrcRx d s)
  · simp [SameOffStream, partly.2]

theorem pushArm_keeps (d : Byte) (s : State) : SameOffStream s (pushArm d s) := by
  unfold pushArm
  split
  · simp [SameOffStream]
  · simp [SameOffStream, pushRaw]
  · exact pushMagic_keeps d s
  · exact pushLen_keeps d s
  · exact pushTyp_keeps d s
  · exact pushPay_keeps d s
  · exact pushCrcf_keeps d s
  · simp [SameOffStream, pushDrain]

/-- PUSH leaves the coming inputs, the host side's output and the CTRL bits alone (R21, R131). -/
theorem pushBeat_keeps (d : Byte) (s : State) : SameOffStream s (pushBeat d s) := by
  simpa [SameOffStream, pushBeat] using pushArm_keeps d (startIfIdle s)

/-- END leaves the coming inputs, the host side's output and the CTRL bits alone (R21, R131). -/
theorem endBeat_keeps (s : State) : SameOffStream s (endBeat s) := by
  obtain ⟨s1, rfl, ⟨_, h⟩ | ⟨_, h⟩⟩ := endBeat_cases s <;> simp [SameOffStream, h]

/-- After END the block is idle, done, at count 0, and the last event is `EOS` of the state it left (R140, R141, R60). -/
theorem endBeat_result (s : State) :
    (endBeat s).phase = .idle ∧ (endBeat s).done = true ∧ (endBeat s).cnt = 0#32 ∧
    (endBeat s).events = s.events ++ [eosOf (endBeat s)] := by
  obtain ⟨s1, rfl, ⟨_, h⟩ | ⟨_, h⟩⟩ := endBeat_cases s <;> simp [h, eosOf, calcOf]

end Sys2Proof.Machine
end

