-- ==== Sys2Proof/Laws/Exec.lean ====
section
/-! SUPPORT. What `exec` can do, by the port of the operation. -/

namespace Sys2Proof.Machine

/-- Every operation is RST, a stream operation or a host operation (R81). -/
theorem port_cases (i : Instr) : i = .rst ∨ i.port = .stream ∨ i.port = .host := by
  cases i <;> simp [Instr.port]

/-- The stream operations (R71). -/
theorem stream_cases {i : Instr} (h : i.port = .stream) :
    i = .sNop ∨ (∃ d, i = .push d) ∨ i = .endStream := by
  cases i <;> simp [Instr.port] at h <;> simp

/-- A stream word decodes to a stream operation (R71). -/
theorem decodeStream_port (w : StreamWord) : (decodeStream w).port = .stream := by
  unfold decodeStream
  split
  · split <;> rfl
  · rfl

/-- A host word decodes to a host operation (R72). -/
theorem decodeHost_port (h : HostWord) : (decodeHost h).port = .host := by
  unfold decodeHost
  split
  · split
    · unfold decodeWrite; split <;> rfl
    · unfold decodeRead; split <;> rfl
  · rfl

/-- A host operation is no access, one read access or one write access (R170, R171, R181 to R183). -/
theorem exec_host {i : Instr} (h : i.port = .host) (s : State) :
    (i = .hNop ∧ exec i s = .next (driveRdata 0#32 s)) ∨
    (∃ a, i = decodeRead a ∧ exec i s = .next (readAccess a s)) ∨
    (∃ a v, i = decodeWrite a v ∧ exec i s = .next (writeAccess a v s)) := by
  cases i <;> simp only [Instr.port, reduceCtorEq] at h <;>
    first
    | exact .inl ⟨rfl, rfl⟩
    | exact .inr (.inl ⟨_, rfl, rfl⟩)
    | exact .inr (.inr ⟨_, _, rfl, rfl⟩)

/-- A host operation changes `h_rdata`, and besides that the CTRL bits (a CTRL write while idle), everything but the
CTRL bits (CLR), or nothing (R171, R181 to R183). -/
theorem exec_host_cases {i : Instr} (h : i.port = .host) {s t : State} (he : exec i s = .next t) :
    ∃ x, t = { s with hRdata := x } ∨
      (∃ v, i = .wrCtrl v ∧ s.phase = .idle ∧
        t = { s with hRdata := x, ctrlParse := v.getLsbD 0, ctrlHdr := v.getLsbD 1 }) ∨
      (∃ v, i = .wrCmd v ∧ v.getLsbD 0 = true ∧ t = { clearStream s with hRdata := x }) := by
  rcases exec_host h s with ⟨_, e⟩ | ⟨a, _, e⟩ | ⟨a, v, hi, e⟩ <;> rw [e] at he <;> cases he
  · exact ⟨_, .inl rfl⟩
  · exact ⟨_, .inl rfl⟩
  · refine ⟨0#32, ?_⟩
    obtain ⟨rfl, hw⟩ | ⟨rfl, hw⟩ | ⟨_, _, hw⟩ := regWrite_cases a v s
    · obtain ⟨hp, hc⟩ | ⟨_, hc⟩ := writeCtrl_cases v s
      · exact .inr (.inl ⟨v, hi, hp, by simp [writeAccess, hw, hc, driveRdata]⟩)
      · exact .inl (by simp [writeAccess, hw, hc, driveRdata])
    · obtain ⟨hp, hc⟩ | ⟨_, hc⟩ := writeCmd_cases v s
      · exact .inr (.inr ⟨v, hi, hp, by simp [writeAccess, hw, hc, driveRdata]⟩)
      · exact .inl (by simp [writeAccess, hw, hc, driveRdata])
    · exact .inl (by simp [writeAccess, hw, driveRdata])

end Sys2Proof.Machine
end

