-- ==== Sys2Proof/Laws/PerInstr.lean ====
section
/-! SUPPORT. Facts of every operation as syntax, one lemma per constructor: `PortOf` (the encoder uses the operation's own port)
and `MatchesTable` (the canonical word agrees with its row of spec/opcode_table.json). -/

namespace Sys2Proof.Laws

/-- The encoder puts the operation on its own port (R71, R72, R73). -/
def PortOf.Statement (i : Instr) : Prop := (encode i).port = i.port

/-- The canonical word lies in the operation's row: the masked bits equal the match (R71, R72, R73). -/
def MatchesTable.Statement (i : Instr) : Prop := (opRow i).holds (encode i) = true

/-- The six top bits of a canonical write word do not depend on its data. -/
theorem writeWord_masked (a : RegAddr) (v : Word) :
    (writeWord a v).toNat &&& 0x3F00000000 = 0x3000000000 + a.toNat * 2 ^ 32 := by
  have hm : (writeWord a v) &&& 0x3F00000000#38 = writeWord a 0#32 := by
    apply BitVec.eq_of_getLsbD_eq
    intro i hi
    have hk : (0x3F00000000#38 : BitVec 38) = 0x3F#6 ++ 0#32 := by decide
    simp only [hk, writeWord, BitVec.getLsbD_and, BitVec.getLsbD_append]
    by_cases h : i < 32
    · simp [h]
    · have : i - 32 < 6 := by omega
      have h63 : ∀ j, j < 6 → (0x3F#6 : BitVec 6).getLsbD j = true := by decide
      simp [h, h63 _ this]
  have := congrArg BitVec.toNat hm
  rw [BitVec.toNat_and] at this
  simp only [BitVec.toNat_ofNat] at this
  rw [show (0x3F00000000 % 2 ^ 38) = 0x3F00000000 from rfl] at this
  rw [this]
  clear this hm
  revert a; decide

theorem PortOf.rst : PortOf.Statement .rst := rfl
theorem PortOf.sNop : PortOf.Statement .sNop := rfl
theorem PortOf.push (d : Byte) : PortOf.Statement (.push d) := rfl
theorem PortOf.endStream : PortOf.Statement .endStream := rfl
theorem PortOf.hNop : PortOf.Statement .hNop := rfl
theorem PortOf.rdCtrl : PortOf.Statement .rdCtrl := rfl
theorem PortOf.rdCmd : PortOf.Statement .rdCmd := rfl
theorem PortOf.rdStatus : PortOf.Statement .rdStatus := rfl
theorem PortOf.rdLen : PortOf.Statement .rdLen := rfl
theorem PortOf.rdType : PortOf.Statement .rdType := rfl
theorem PortOf.rdCrcRx : PortOf.Statement .rdCrcRx := rfl
theorem PortOf.rdCrcCalc : PortOf.Statement .rdCrcCalc := rfl
theorem PortOf.rdNframes : PortOf.Statement .rdNframes := rfl
theorem PortOf.rdCnt : PortOf.Statement .rdCnt := rfl
theorem PortOf.rdRsvd9 : PortOf.Statement .rdRsvd9 := rfl
theorem PortOf.rdRsvd10 : PortOf.Statement .rdRsvd10 := rfl
theorem PortOf.rdRsvd11 : PortOf.Statement .rdRsvd11 := rfl
theorem PortOf.rdRsvd12 : PortOf.Statement .rdRsvd12 := rfl
theorem PortOf.rdRsvd13 : PortOf.Statement .rdRsvd13 := rfl
theorem PortOf.rdRsvd14 : PortOf.Statement .rdRsvd14 := rfl
theorem PortOf.rdRsvd15 : PortOf.Statement .rdRsvd15 := rfl
theorem PortOf.wrCtrl (v : Word) : PortOf.Statement (.wrCtrl v) := rfl
theorem PortOf.wrCmd (v : Word) : PortOf.Statement (.wrCmd v) := rfl
theorem PortOf.wrIgn2 (v : Word) : PortOf.Statement (.wrIgn2 v) := rfl
theorem PortOf.wrIgn3 (v : Word) : PortOf.Statement (.wrIgn3 v) := rfl
theorem PortOf.wrIgn4 (v : Word) : PortOf.Statement (.wrIgn4 v) := rfl
theorem PortOf.wrIgn5 (v : Word) : PortOf.Statement (.wrIgn5 v) := rfl
theorem PortOf.wrIgn6 (v : Word) : PortOf.Statement (.wrIgn6 v) := rfl
theorem PortOf.wrIgn7 (v : Word) : PortOf.Statement (.wrIgn7 v) := rfl
theorem PortOf.wrIgn8 (v : Word) : PortOf.Statement (.wrIgn8 v) := rfl
theorem PortOf.wrIgn9 (v : Word) : PortOf.Statement (.wrIgn9 v) := rfl
theorem PortOf.wrIgn10 (v : Word) : PortOf.Statement (.wrIgn10 v) := rfl
theorem PortOf.wrIgn11 (v : Word) : PortOf.Statement (.wrIgn11 v) := rfl
theorem PortOf.wrIgn12 (v : Word) : PortOf.Statement (.wrIgn12 v) := rfl
theorem PortOf.wrIgn13 (v : Word) : PortOf.Statement (.wrIgn13 v) := rfl
theorem PortOf.wrIgn14 (v : Word) : PortOf.Statement (.wrIgn14 v) := rfl
theorem PortOf.wrIgn15 (v : Word) : PortOf.Statement (.wrIgn15 v) := rfl

theorem MatchesTable.rst : MatchesTable.Statement .rst := by unfold MatchesTable.Statement; decide
theorem MatchesTable.sNop : MatchesTable.Statement .sNop := by unfold MatchesTable.Statement; decide
theorem MatchesTable.push (d : Byte) : MatchesTable.Statement (.push d) := by
  revert d; unfold MatchesTable.Statement; decide
theorem MatchesTable.endStream : MatchesTable.Statement .endStream := by unfold MatchesTable.Statement; decide
theorem MatchesTable.hNop : MatchesTable.Statement .hNop := by unfold MatchesTable.Statement; decide
theorem MatchesTable.rdCtrl : MatchesTable.Statement .rdCtrl := by unfold MatchesTable.Statement; decide
theorem MatchesTable.rdCmd : MatchesTable.Statement .rdCmd := by unfold MatchesTable.Statement; decide
theorem MatchesTable.rdStatus : MatchesTable.Statement .rdStatus := by unfold MatchesTable.Statement; decide
theorem MatchesTable.rdLen : MatchesTable.Statement .rdLen := by unfold MatchesTable.Statement; decide
theorem MatchesTable.rdType : MatchesTable.Statement .rdType := by unfold MatchesTable.Statement; decide
theorem MatchesTable.rdCrcRx : MatchesTable.Statement .rdCrcRx := by unfold MatchesTable.Statement; decide
theorem MatchesTable.rdCrcCalc : MatchesTable.Statement .rdCrcCalc := by unfold MatchesTable.Statement; decide
theorem MatchesTable.rdNframes : MatchesTable.Statement .rdNframes := by unfold MatchesTable.Statement; decide
theorem MatchesTable.rdCnt : MatchesTable.Statement .rdCnt := by unfold MatchesTable.Statement; decide
theorem MatchesTable.rdRsvd9 : MatchesTable.Statement .rdRsvd9 := by unfold MatchesTable.Statement; decide
theorem MatchesTable.rdRsvd10 : MatchesTable.Statement .rdRsvd10 := by unfold MatchesTable.Statement; decide
theorem MatchesTable.rdRsvd11 : MatchesTable.Statement .rdRsvd11 := by unfold MatchesTable.Statement; decide
theorem MatchesTable.rdRsvd12 : MatchesTable.Statement .rdRsvd12 := by unfold MatchesTable.Statement; decide
theorem MatchesTable.rdRsvd13 : MatchesTable.Statement .rdRsvd13 := by unfold MatchesTable.Statement; decide
theorem MatchesTable.rdRsvd14 : MatchesTable.Statement .rdRsvd14 := by unfold MatchesTable.Statement; decide
theorem MatchesTable.rdRsvd15 : MatchesTable.Statement .rdRsvd15 := by unfold MatchesTable.Statement; decide
theorem MatchesTable.wrCtrl (v : Word) : MatchesTable.Statement (.wrCtrl v) := by
  simp [MatchesTable.Statement, OpRow.holds, opRow, encode, PortWord.port, PortWord.value, writeWord_masked]
theorem MatchesTable.wrCmd (v : Word) : MatchesTable.Statement (.wrCmd v) := by
  simp [MatchesTable.Statement, OpRow.holds, opRow, encode, PortWord.port, PortWord.value, writeWord_masked]
theorem MatchesTable.wrIgn2 (v : Word) : MatchesTable.Statement (.wrIgn2 v) := by
  simp [MatchesTable.Statement, OpRow.holds, opRow, encode, PortWord.port, PortWord.value, writeWord_masked]
theorem MatchesTable.wrIgn3 (v : Word) : MatchesTable.Statement (.wrIgn3 v) := by
  simp [MatchesTable.Statement, OpRow.holds, opRow, encode, PortWord.port, PortWord.value, writeWord_masked]
theorem MatchesTable.wrIgn4 (v : Word) : MatchesTable.Statement (.wrIgn4 v) := by
  simp [MatchesTable.Statement, OpRow.holds, opRow, encode, PortWord.port, PortWord.value, writeWord_masked]
theorem MatchesTable.wrIgn5 (v : Word) : MatchesTable.Statement (.wrIgn5 v) := by
  simp [MatchesTable.Statement, OpRow.holds, opRow, encode, PortWord.port, PortWord.value, writeWord_masked]
theorem MatchesTable.wrIgn6 (v : Word) : MatchesTable.Statement (.wrIgn6 v) := by
  simp [MatchesTable.Statement, OpRow.holds, opRow, encode, PortWord.port, PortWord.value, writeWord_masked]
theorem MatchesTable.wrIgn7 (v : Word) : MatchesTable.Statement (.wrIgn7 v) := by
  simp [MatchesTable.Statement, OpRow.holds, opRow, encode, PortWord.port, PortWord.value, writeWord_masked]
theorem MatchesTable.wrIgn8 (v : Word) : MatchesTable.Statement (.wrIgn8 v) := by
  simp [MatchesTable.Statement, OpRow.holds, opRow, encode, PortWord.port, PortWord.value, writeWord_masked]
theorem MatchesTable.wrIgn9 (v : Word) : MatchesTable.Statement (.wrIgn9 v) := by
  simp [MatchesTable.Statement, OpRow.holds, opRow, encode, PortWord.port, PortWord.value, writeWord_masked]
theorem MatchesTable.wrIgn10 (v : Word) : MatchesTable.Statement (.wrIgn10 v) := by
  simp [MatchesTable.Statement, OpRow.holds, opRow, encode, PortWord.port, PortWord.value, writeWord_masked]
theorem MatchesTable.wrIgn11 (v : Word) : MatchesTable.Statement (.wrIgn11 v) := by
  simp [MatchesTable.Statement, OpRow.holds, opRow, encode, PortWord.port, PortWord.value, writeWord_masked]
theorem MatchesTable.wrIgn12 (v : Word) : MatchesTable.Statement (.wrIgn12 v) := by
  simp [MatchesTable.Statement, OpRow.holds, opRow, encode, PortWord.port, PortWord.value, writeWord_masked]
theorem MatchesTable.wrIgn13 (v : Word) : MatchesTable.Statement (.wrIgn13 v) := by
  simp [MatchesTable.Statement, OpRow.holds, opRow, encode, PortWord.port, PortWord.value, writeWord_masked]
theorem MatchesTable.wrIgn14 (v : Word) : MatchesTable.Statement (.wrIgn14 v) := by
  simp [MatchesTable.Statement, OpRow.holds, opRow, encode, PortWord.port, PortWord.value, writeWord_masked]
theorem MatchesTable.wrIgn15 (v : Word) : MatchesTable.Statement (.wrIgn15 v) := by
  simp [MatchesTable.Statement, OpRow.holds, opRow, encode, PortWord.port, PortWord.value, writeWord_masked]

end Sys2Proof.Laws
end

