-- ==== Sys2Proof/Laws/Step.lean ====
section
/-! SUPPORT. A step whose input is known, and several steps one after the other. -/

namespace Sys2Proof.Machine

/-! ### One step -/

/-- A step with known port words and no reset (R59). -/
theorem step_of_inputs {s : State} {w : StreamWord} {h : HostWord} {rest : List StepInput}
    (hs : s.inputs = ⟨false, w, h⟩ :: rest) :
    step s = andThen (exec (decodeHost h) { s with inputs := rest }) (fun s1 => exec (decodeStream w) s1) := by
  simp [step, nextInput, dropInput, hs]

/-- A step that presents a stream word alone (R71, R170). -/
theorem step_stream_alone {s : State} {w : StreamWord} {rest : List StepInput}
    (hs : s.inputs = (PortWord.stream w).alone :: rest) :
    step s = exec (decodeStream w) { s with inputs := rest, hRdata := 0#32 } := by
  rw [step_of_inputs (w := w) (h := 0#38) (rest := rest) hs]
  rfl

/-- The canonical word of `PUSH` decodes to it (R71). -/
theorem decodeStream_push (d : Byte) : decodeStream (0b10#2 ++ d) = .push d := by
  revert d; decide

/-- A step that presents `PUSH d` alone. -/
theorem step_push_alone {s : State} {d : Byte} {rest : List StepInput}
    (hs : s.inputs = aloneInput (.push d) :: rest) :
    step s = .next (pushBeat d { s with inputs := rest, hRdata := 0#32, events := [] }) := by
  rw [step_stream_alone hs, decodeStream_push]
  rfl

/-- A step that presents `END` alone. -/
theorem step_end_alone {s : State} {rest : List StepInput}
    (hs : s.inputs = aloneInput .endStream :: rest) :
    step s = .next (endBeat { s with inputs := rest, hRdata := 0#32, events := [] }) := by
  rw [step_stream_alone hs]
  rfl

/-! ### Several steps -/

@[simp] theorem runSteps_zero (s : State) : runSteps 0 s = some (s, []) := rfl

/-- The first step of a run that answers a next state. -/
theorem runSteps_of_step {s t : State} (k : Nat) (h : step s = .next t) :
    runSteps (k + 1) s = (runSteps k t).map (fun r => (r.1, t.events ++ r.2)) := by
  simp only [runSteps, h]
  cases runSteps k t <;> rfl

/-- A run in two parts: the second goes on from the state the first left, and the events stand in order (R58). -/
theorem runSteps_add {m n : Nat} {s t u : State} {as bs : List OutEvent}
    (h1 : runSteps m s = some (t, as)) (h2 : runSteps n t = some (u, bs)) :
    runSteps (m + n) s = some (u, as ++ bs) := by
  induction m generalizing s as with
  | zero =>
    cases h1
    simpa using h2
  | succ m ih =>
    rw [Nat.succ_add_eq_add_succ, Nat.add_succ]
    simp only [runSteps] at h1 ⊢
    split at h1
    · rename_i x hx
      split at h1
      · rename_i v es hv
        cases h1
        simp [ih hv, List.append_assoc]
      · cases h1
    · cases h1
    · cases h1

/-- A run over one `PUSH` and more (R58). -/
theorem runSteps_push {s : State} {d : Byte} {rest : List StepInput} (k : Nat)
    (hs : s.inputs = aloneInput (.push d) :: rest) :
    runSteps (k + 1) s =
      (runSteps k (pushBeat d { s with inputs := rest, hRdata := 0#32, events := [] })).map
        (fun r => (r.1, (pushBeat d { s with inputs := rest, hRdata := 0#32, events := [] }).events ++ r.2)) :=
  runSteps_of_step k (step_push_alone hs)

@[simp] theorem bytesInputs_nil : bytesInputs [] = [] := rfl

@[simp] theorem bytesInputs_cons (d : Byte) (bs : List Byte) :
    bytesInputs (d :: bs) = aloneInput (.push d) :: bytesInputs bs := rfl

@[simp] theorem bytesInputs_append (as bs : List Byte) :
    bytesInputs (as ++ bs) = bytesInputs as ++ bytesInputs bs := by simp [bytesInputs]

/-! ### Formats -/

@[simp] theorem be32_length (n : Word) : (be32 n).length = 4 := rfl

@[simp] theorem frameLayout_length (n : Word) (f : Frame) (c : Word) :
    (frameLayout n f c).length = 12 + f.payload.length := by
  simp [frameLayout]; omega

/-- When a frame with a forced checksum has a serialized form, and which (R86, R87). -/
theorem serializeWith_eq_some {f : Frame} {c : Word} {bytes : List Byte} :
    serializeWith f c = some bytes ↔
      f.payload.length < 2 ^ 32 ∧ bytes = frameLayout (BitVec.ofNat 32 f.payload.length) f c := by
  unfold serializeWith Frame.wellFormed payloadFits
  split <;> rename_i h <;> simp_all [eq_comm]

end Sys2Proof.Machine
end

