-- ==== Sys2Proof/Tests/Slice0.lean ====
section
/-! SUPPORT. Tests. V<n> is a vector of spec/95_test_vectors.md, which is where expected values come from; words of the
decode tests are written out bit by bit from spec/30_encoding.md R71, R72 and R73. A theorem `witness_<name>` (with a suffix where it shows one clause) shows that the
hypotheses of the obligation of that name can be met. -/

namespace Sys2Proof.Tests

open Sys2Proof Sys2Proof.Machine

/-! ### WellFormed -/

theorem test_wf_refuses_a_stream_event_on_the_host_side :
    TraceLine.wellFormed (.events (.push 0x41#8) .sNop) = false := by decide

theorem test_wf_refuses_a_host_event_on_the_stream_side :
    TraceLine.wellFormed (.events .hNop .rdCtrl) = false ∧ TraceLine.wellFormed (.events .hNop .rst) = false := by decide

theorem test_wf_refuses_a_text_that_is_not_ascii : TraceLine.wellFormed (.str ['a', 'é']) = false := by decide

theorem test_wf_refuses_a_type_text_of_three_or_five :
    TraceLine.wellFormed (.frame ['R', 'u', 'S'] []) = false ∧
    TraceLine.wellFormed (.frameX ['R', 'u', 'S', 't', 'y'] [] 0#32) = false := by decide

theorem test_wf_refuses_a_type_text_that_is_not_ascii :
    TraceLine.wellFormed (.frame ['R', 'u', 'S', 'é'] []) = false := by decide

theorem test_wf_refuses_a_payload_of_2_to_the_32_bytes :
    Frame.wellFormed ⟨0x52755374#32, List.replicate (2 ^ 32) 0#8⟩ = false := by
  unfold Frame.wellFormed payloadFits
  rw [List.length_replicate]
  decide

theorem test_wf_accepts :
    TraceLine.wellFormed (.events .rdCnt (.push 0x6C#8)) = true ∧
    TraceLine.wellFormed (.frame ['R', 'u', 'S', 't'] [0x41#8]) = true ∧
    TraceLine.wellFormed (.str ['h', 'i']) = true := by decide

/-! ### Decode: every operation from a word written out from R71, R72, R73 -/

theorem test_decode_pin : decodePin 0b1#1 = .ok .rst ∧ decodePin 0b0#1 = .error .resetPinLow := by decide

theorem test_decode_stream :
    decodeStream 0b0000000000#10 = .sNop ∧ decodeStream 0b0111111111#10 = .sNop ∧
    decodeStream 0b1001110100#10 = .push 0x74#8 ∧
    decodeStream 0b1100000000#10 = .endStream ∧ decodeStream 0b1111111111#10 = .endStream := by decide

theorem test_decode_no_access :
    decodeHost 0b00000000000000000000000000000000000000#38 = .hNop ∧
    decodeHost 0b01111111111111111111111111111111111111#38 = .hNop := by decide

theorem test_decode_reads_0_to_7 :
    decodeHost 0b10000000000000000000000000000000000000#38 = .rdCtrl ∧
    decodeHost 0b10000100000000000000000000000000000000#38 = .rdCmd ∧
    decodeHost 0b10001000000000000000000000000000000000#38 = .rdStatus ∧
    decodeHost 0b10001100000000000000000000000000000000#38 = .rdLen ∧
    decodeHost 0b10010000000000000000000000000000000000#38 = .rdType ∧
    decodeHost 0b10010100000000000000000000000000000000#38 = .rdCrcRx ∧
    decodeHost 0b10011000000000000000000000000000000000#38 = .rdCrcCalc ∧
    decodeHost 0b10011100000000000000000000000000000000#38 = .rdNframes := by decide

theorem test_decode_reads_8_to_15 :
    decodeHost 0b10100000000000000000000000000000000000#38 = .rdCnt ∧
    decodeHost 0b10100100000000000000000000000000000000#38 = .rdRsvd9 ∧
    decodeHost 0b10101000000000000000000000000000000000#38 = .rdRsvd10 ∧
    decodeHost 0b10101100000000000000000000000000000000#38 = .rdRsvd11 ∧
    decodeHost 0b10110000000000000000000000000000000000#38 = .rdRsvd12 ∧
    decodeHost 0b10110100000000000000000000000000000000#38 = .rdRsvd13 ∧
    decodeHost 0b10111000000000000000000000000000000000#38 = .rdRsvd14 ∧
    decodeHost 0b10111100000000000000000000000000000000#38 = .rdRsvd15 := by decide

theorem test_decode_writes_0_to_7 :
    decodeHost 0b11000000000000000000000000000000000011#38 = .wrCtrl 3#32 ∧
    decodeHost 0b11000100000000000000000000000000000001#38 = .wrCmd 1#32 ∧
    decodeHost 0b11001011111111111111111111111111111111#38 = .wrIgn2 0xFFFFFFFF#32 ∧
    decodeHost 0b11001100010010001101000101011001111000#38 = .wrIgn3 0x12345678#32 ∧
    decodeHost 0b11010000000000000000000000000000000001#38 = .wrIgn4 1#32 ∧
    decodeHost 0b11010110000000000000000000000000000000#38 = .wrIgn5 0x80000000#32 ∧
    decodeHost 0b11011000000000000000000000000000000000#38 = .wrIgn6 0#32 ∧
    decodeHost 0b11011100000000000000001000000000000000#38 = .wrIgn7 0x8000#32 := by decide

theorem test_decode_writes_8_to_15 :
    decodeHost 0b11100000000000000000000000000000000000#38 = .wrIgn8 0#32 ∧
    decodeHost 0b11100111111111111111111111111111111111#38 = .wrIgn9 0xFFFFFFFF#32 ∧
    decodeHost 0b11101000000000000000000000000000000010#38 = .wrIgn10 2#32 ∧
    decodeHost 0b11101100000000000000000000000000000100#38 = .wrIgn11 4#32 ∧
    decodeHost 0b11110000000000000000000000000000001000#38 = .wrIgn12 8#32 ∧
    decodeHost 0b11110100000000000000000000000000010000#38 = .wrIgn13 16#32 ∧
    decodeHost 0b11111000000000000000000000000000100000#38 = .wrIgn14 32#32 ∧
    decodeHost 0b11111111111111111111111111111111111111#38 = .wrIgn15 0xFFFFFFFF#32 := by decide

/-- V133 to V168: the words of the vectors' encoding columns. -/
theorem test_decode_table_words :
    decodeTableWord 8 0x1 = some .rst ∧ decodeTableWord 16 0x26C = some (.push 0x6C#8) ∧
    decodeTableWord 16 0x300 = some .endStream ∧ decodeTableWord 40 0x2800000000 = some .rdCnt ∧
    decodeTableWord 40 0x30FFFFFFFC = some (.wrCtrl 0xFFFFFFFC#32) := by decide

theorem test_decode_refuses_by_name :
    decodeBytes [] = .error (.notAPortWord 0) ∧ decodeBytes [0x00#8] = .error .resetPinLow ∧
    decodeBytes [0x03#8] = .error .bitAboveWidth ∧ decodeBytes [0x00#8, 0x04#8] = .error .bitAboveWidth ∧
    decodeBytes [0x00#8, 0x00#8, 0x00#8] = .error (.notAPortWord 3) ∧
    decodeBytes [0x00#8, 0x00#8, 0x00#8, 0x00#8, 0x40#8] = .error .bitAboveWidth := by decide

/-! ### Helpers -/

/-- The state an operation leaves. -/
def after (i : Instr) (s : State) : Option State :=
  match exec i s with
  | .next t => some t
  | .fault _ => none
  | .refused _ => none

/-- The state the next step leaves, given its port words. -/
def stepOn (p : StepInput) (s : State) : Option State :=
  match step { s with inputs := [p] } with
  | .next t => some t
  | .fault _ => none
  | .refused _ => none

/-- Parse mode with the preamble, in a phase at a count. -/
def inPhase (p : Phase) (cnt : Word) : State :=
  { State.reset with ctrlParse := true, ctrlHdr := true, phase := p, cnt := cnt }

/-- The state S1 of spec/95_test_vectors.md: CTRL 3, three payload bytes missing. -/
def s1 : State := { inPhase .pay 3#32 with len := 5#32, typ := 0x72755374#32, crc := 0x23598991#32 }

/-- The state of V90 to V91 before the last checksum byte. -/
def lastByte : State :=
  { inPhase .crcf 3#32 with len := 5#32, typ := 0x72755374#32, crcRx := 0x04AE508D#32, crc := 0x51AF7290#32 }

/-- The state of V92 before the last checksum byte: an invalid type. -/
def lastByteBadType : State :=
  { inPhase .crcf 3#32 with len := 2#32, typ := 0x52757374#32, crcRx := 0x00728E90#32, crc := 0x8D716FB2#32 }

/-! ### Steps, with the values of the vectors -/

/-- V174: both ports are ignored in a reset step. -/
theorem test_reset_step :
    stepOn ⟨true, 0x26C#10, 0x3000000003#38⟩ s1 = some State.reset := by decide

/-- V74. -/
theorem test_push_starts_a_raw_stream :
    after (.push 0x52#8) { State.reset with ctrlHdr := true, crc := 0x2B7BF6C3#32, done := true } =
      some { State.reset with ctrlHdr := true, phase := .raw, crc := 0xA89820AA#32 } := by decide

/-- V79 and V91: BadMagic on the eighth byte, ChecksumMismatch on the last. -/
theorem test_push_takes_the_errors :
    after (.push 0x0B#8) (inPhase .magic 7#32) = some { inPhase .drain 0#32 with err := 2#3, mbad := true } ∧
    after (.push 0x6E#8) lastByte = some { lastByte with
      phase := .drain, cnt := 0#32, crcRx := 0xAE508D6E#32, err := 4#3
      events := [.frm 4#3 5#32 0x72755374#32 0xAE508D6E#32 0xAE508D6F#32] } := by decide

/-- V102. -/
theorem test_end_of_an_empty_container :
    after .endStream { inPhase .idle 0#32 with nfr := 9#32, err := 4#3, done := true } =
      some { inPhase .idle 0#32 with err := 1#3, done := true, events := [.eos 1#3 0#32 0#32] } := by decide

/-- V100. -/
theorem test_end_in_the_checksum_field :
    after .endStream { inPhase .crcf 3#32 with typ := 0x52757374#32, crcRx := 0x00D48409#32, crc := 0x2B7BF6C3#32 } =
      some { inPhase .idle 0#32 with
        typ := 0x52757374#32, crcRx := 0x00D48409#32, crc := 0x2B7BF6C3#32, err := 1#3, done := true
        events := [.eos 1#3 0#32 0xD484093C#32] } := by decide

/-- V133 to V141. -/
theorem test_reads_of_s1 :
    [Instr.rdCtrl, .rdCmd, .rdStatus, .rdLen, .rdType, .rdCrcRx, .rdCrcCalc, .rdNframes, .rdCnt].map
        (fun i => (after i s1).map State.hRdata) =
      [some 3#32, some 0#32, some 0x003C0501#32, some 5#32, some 0x72755374#32, some 0#32, some 0xDCA6766E#32,
        some 0#32, some 3#32] := by decide

/-- V142 to V148. -/
theorem test_reserved_reads_of_s1 :
    [Instr.rdRsvd9, .rdRsvd10, .rdRsvd11, .rdRsvd12, .rdRsvd13, .rdRsvd14, .rdRsvd15].map
      (fun i => after i s1) = List.replicate 7 (some s1) := by decide

/-- V150, V151, V153. -/
theorem test_writes_of_ctrl :
    after (.wrCtrl 0xFFFFFFFF#32) State.reset = some { State.reset with ctrlParse := true, ctrlHdr := true } ∧
    after (.wrCtrl 0xFFFFFFFC#32) State.reset = some State.reset ∧
    after (.wrCtrl 0#32) s1 = some s1 := by decide

/-- V155, V157. -/
theorem test_writes_of_cmd :
    after (.wrCmd 0xFFFFFFFE#32) s1 = some s1 ∧
    after (.wrCmd 0xFFFFFFFF#32) s1 = some { State.reset with ctrlParse := true, ctrlHdr := true } := by decide

/-- V158 to V163. -/
theorem test_ignored_writes :
    [Instr.wrIgn2 0xFFFFFFFF#32, .wrIgn3 0x12345678#32, .wrIgn4 1#32, .wrIgn5 1#32, .wrIgn6 0#32, .wrIgn7 1#32,
      .wrIgn8 0#32, .wrIgn9 0xFFFFFFFF#32, .wrIgn10 1#32, .wrIgn11 1#32, .wrIgn12 1#32, .wrIgn13 1#32,
      .wrIgn14 1#32, .wrIgn15 0xFFFFFFFF#32].map (fun i => after i s1) = List.replicate 14 (some s1) := by decide

/-- V167: the read sees the state before the beat of the same step. -/
theorem test_joined_read_and_push :
    (stepOn (joined .rdCrcCalc (.push 0x6C#8)) s1).map (fun t => (t.hRdata, t.cnt, t.crc, t.events)) =
      some (0xDCA6766E#32, 2#32, 0xC32FD728#32, [.pay 0x6C#8]) := by decide

/-- V168 and V169: the write is taken before the beat of the same step. -/
theorem test_joined_write_and_beat :
    (stepOn (joined (.wrCtrl 3#32) (.push 0x89#8)) State.reset).map (fun t => (t.phase, t.cnt)) =
      some (.magic, 1#32) ∧
    (stepOn (joined (.wrCtrl 1#32) .endStream) State.reset).map State.events = some [.eos 0#3 0#32 0#32] := by decide

/-- An empty frame of type RuSt by R74 and R77; its checksum 0xD484093C is V84's and V93's. -/
theorem test_expand_frame :
    expand (.frame ['R', 'u', 'S', 't'] []) = some (bytesInputs
      [0x00#8, 0x00#8, 0x00#8, 0x00#8, 0x52#8, 0x75#8, 0x53#8, 0x74#8, 0xD4#8, 0x84#8, 0x09#8, 0x3C#8]) := by decide +kernel

/-! ### Witnesses: the hypotheses of the obligations can be met -/

/-- The nine items of R41 in three groups, so that each group can be decided. -/
theorem legal_of_items {s : State} (counts : invIdleCount s ∧ invFieldCount s)
    (errors : invDrainError s ∧ invActiveNoError s ∧ invTooShortEnded s ∧ invErrorCode s)
    (modes : invDoneIdle s ∧ invBadMagic s ∧ invMode s) : LegalState s :=
  ⟨counts.1, counts.2, errors.1, errors.2.1, errors.2.2.1, modes.1, modes.2.1, modes.2.2, errors.2.2.2⟩

/-- A step with a beat, of an event, in a reachable state. -/
theorem witness_EveryStepKeepsTheInvariants :
    LegalState { s1 with inputs := [aloneInput (.push 0x6C#8)] } ∧
    ∃ t, step { s1 with inputs := [aloneInput (.push 0x6C#8)] } = .next t ∧ t ≠ s1 := ⟨legal_of_items (by decide) (by decide) (by decide), _, rfl, by decide⟩

theorem witness_StepRunsTheDecodedInstruction :
    decodeTableWord 8 1 = some .rst ∧ decodeTableWord 16 0x289 = some (.push 0x89#8) ∧
    decodeTableWord 40 0x3000000003 = some (.wrCtrl 3#32) := by decide

theorem witness_AtMostOneEventAndOnlyFromABeat_event :
    ∃ t, step { s1 with inputs := [aloneInput (.push 0x6C#8)] } = .next t ∧ t.events = [.pay 0x6C#8] :=
  ⟨_, rfl, by decide⟩

theorem witness_AtMostOneEventAndOnlyFromABeat_reset :
    (nextInput { s1 with inputs := [⟨true, 0x26C#10, 0#38⟩] }).rst = true ∧
    ∃ t, step { s1 with inputs := [⟨true, 0x26C#10, 0#38⟩] } = .next t := ⟨by decide, _, rfl⟩

theorem witness_AtMostOneEventAndOnlyFromABeat_no_beat :
    (nextInput { s1 with inputs := [⟨false, 0x16C#10, 0#38⟩] }).s.getLsbD 9 = false ∧
    ∃ t, step { s1 with inputs := [⟨false, 0x16C#10, 0#38⟩] } = .next t := ⟨by decide, _, rfl⟩

theorem witness_EveryPortWordIsInExactlyOneRow :
    PortWord.pin 1#1 ≠ .pin 0#1 ∧ PortWord.stream 0x3FF#10 ≠ .pin 0#1 ∧ PortWord.host 0#38 ≠ .pin 0#1 := by decide

theorem witness_StreamNopsHaveNoEffect :
    (∀ w ∈ [0x000#10, 0x1FF#10], w.getLsbD 9 = false) ∧
    { s1 with inputs := [⟨false, 0x000#10, 0#38⟩, ⟨false, 0x1FF#10, 0#38⟩, aloneInput .endStream] }.inputs =
      [0x000#10, 0x1FF#10].map (fun w => ⟨false, w, 0#38⟩) ++ [aloneInput .endStream] := by decide

theorem witness_StreamStartsUnderTheControlBits :
    ((Instr.push 0x89#8).port = .stream ∧ Instr.push 0x89#8 ≠ .sNop ∧ (inPhase .idle 0#32).phase = .idle) ∧
    (Instr.endStream.port = .stream ∧ Instr.endStream ≠ .sNop) ∧
    (Instr.push 0x47#8).port = .stream ∧ (inPhase .magic 3#32).phase ≠ .idle := by decide

theorem witness_PushInRawUpdatesCrc : { State.reset with phase := .raw }.phase = .raw := by decide

/-- The first preamble byte. -/
theorem witness_PushInMagicChecksThePreamble_first :
    (inPhase .magic 0#32).phase = .magic ∧
    [0x89#8, 0x50#8, 0x4E#8, 0x47#8, 0x0D#8, 0x0A#8, 0x1A#8, 0x0A#8][(inPhase .magic 0#32).cnt.toNat]? = some 0x89#8 ∧
    false = ((inPhase .magic 0#32).mbad || 0x89#8 != 0x89#8) := by repeat' constructor

/-- An inner preamble byte (V75). -/
theorem witness_PushInMagicChecksThePreamble_inner :
    (inPhase .magic 3#32).phase = .magic ∧
    [0x89#8, 0x50#8, 0x4E#8, 0x47#8, 0x0D#8, 0x0A#8, 0x1A#8, 0x0A#8][(inPhase .magic 3#32).cnt.toNat]? = some 0x47#8 ∧
    false = ((inPhase .magic 3#32).mbad || 0x47#8 != 0x47#8) := by repeat' constructor

/-- The last preamble byte: right (V77), right after an earlier mismatch (V78), wrong (V79). -/
theorem witness_PushInMagicChecksThePreamble_last :
    (inPhase .magic 7#32).phase = .magic ∧
    [0x89#8, 0x50#8, 0x4E#8, 0x47#8, 0x0D#8, 0x0A#8, 0x1A#8, 0x0A#8][(inPhase .magic 7#32).cnt.toNat]? = some 0x0A#8 ∧
    false = ((inPhase .magic 7#32).mbad || 0x0A#8 != 0x0A#8) ∧
    true = ({ inPhase .magic 7#32 with mbad := true }.mbad || 0x0A#8 != 0x0A#8) ∧
    true = ((inPhase .magic 7#32).mbad || 0x0B#8 != 0x0A#8) := by repeat' constructor

theorem witness_PushInLenAssemblesTheLength :
    (inPhase .len 0#32).phase = .len ∧ (inPhase .len 2#32).cnt ≠ 3#32 ∧
    (inPhase .len 3#32).phase = .len ∧ (inPhase .len 3#32).cnt = 3#32 := by decide

theorem witness_PushInTypeAssemblesTheType :
    (inPhase .typ 3#32).phase = .typ ∧ (inPhase .typ 3#32).len = 0#32 ∧
    { inPhase .typ 3#32 with len := 0xFFFFFFFF#32 }.len ≠ 0#32 ∧ (inPhase .typ 2#32).cnt ≠ 3#32 := by decide

theorem witness_PushInPayloadForwardsTheByte :
    s1.phase = .pay ∧ s1.cnt ≠ 1#32 ∧ { s1 with cnt := 1#32 }.phase = .pay := by decide

theorem witness_PushInChecksumJudgesTheFrame_before :
    (inPhase .crcf 2#32).phase = .crcf ∧ (inPhase .crcf 2#32).cnt ≠ 3#32 := by decide

/-- V92. -/
theorem witness_PushInChecksumJudgesTheFrame_type :
    lastByteBadType.phase = .crcf ∧ lastByteBadType.cnt = 3#32 ∧ tvalid lastByteBadType.typ = false := by decide

/-- V91. -/
theorem witness_PushInChecksumJudgesTheFrame_mismatch :
    lastByte.phase = .crcf ∧ lastByte.cnt = 3#32 ∧ tvalid lastByte.typ = true ∧
    (lastByte.crcRx <<< 8) ||| (0x6E#8).setWidth 32 ≠ lastByte.crc ^^^ 0xFFFFFFFF#32 := by decide

/-- V90. -/
theorem witness_PushInChecksumJudgesTheFrame_good :
    lastByte.phase = .crcf ∧ lastByte.cnt = 3#32 ∧ tvalid lastByte.typ = true ∧
    (lastByte.crcRx <<< 8) ||| (0x6F#8).setWidth 32 = lastByte.crc ^^^ 0xFFFFFFFF#32 := by decide

theorem witness_DrainDiscardsUntilEnd :
    { inPhase .drain 0#32 with err := 3#3, inputs := streamInputs [0x12#8, 0x34#8] }.phase = .drain ∧
    { inPhase .drain 0#32 with err := 3#3, inputs := streamInputs [0x12#8, 0x34#8] }.inputs =
      streamInputs [0x12#8, 0x34#8] ++ [] ∧
    ∃ t, exec .endStream { inPhase .drain 0#32 with err := 3#3 } = .next t ∧ t.phase ≠ .drain :=
  ⟨rfl, rfl, _, rfl, by decide⟩

theorem witness_EndInRawReportsTheCrc :
    ({ State.reset with phase := .raw }.phase = .raw ∧ { State.reset with phase := .raw }.err = 0#3 ∧
      { State.reset with phase := .raw }.nfr = 0#32) ∧
    State.reset.phase = .idle ∧ State.reset.ctrlParse = false := by decide

theorem witness_RawStreamsCountNoFrames :
    ({ State.reset with phase := .raw, inputs := [aloneInput (.push 1#8)] }.phase = .raw →
      { State.reset with phase := .raw, inputs := [aloneInput (.push 1#8)] }.nfr = 0#32) ∧
    ∃ t, step { State.reset with phase := .raw, inputs := [aloneInput (.push 1#8)] } = .next t ∧ t.phase = .raw :=
  ⟨by decide, _, rfl, by decide⟩

/-- Every phase of parse mode, and LEN both at and off the frame boundary. -/
theorem witness_EndOffABoundaryIsTooShort :
    (∀ p ∈ [Phase.magic, .len, .typ, .pay, .crcf, .drain],
      (inPhase p 1#32).phase = .magic ∨ (inPhase p 1#32).phase = .len ∨ (inPhase p 1#32).phase = .typ ∨
      (inPhase p 1#32).phase = .pay ∨ (inPhase p 1#32).phase = .crcf ∨ (inPhase p 1#32).phase = .drain) ∧
    (1#3 = if (inPhase .len 1#32).phase = .drain ∨ ((inPhase .len 1#32).phase = .len ∧ (inPhase .len 1#32).cnt = 0#32)
      then (inPhase .len 1#32).err else 1#3) ∧
    (0#3 = if (inPhase .len 0#32).phase = .drain ∨ ((inPhase .len 0#32).phase = .len ∧ (inPhase .len 0#32).cnt = 0#32)
      then (inPhase .len 0#32).err else 1#3) := by decide

theorem witness_EmptyStreamVerdict :
    ∀ h ∈ [true, false], { inPhase .idle 0#32 with ctrlHdr := h }.phase = .idle ∧
      { inPhase .idle 0#32 with ctrlHdr := h }.ctrlParse = true := by decide

theorem witness_PhaseMovesOnlyAlongTheTable :
    (∃ t, exec (.push 0x6F#8) lastByte = .next t ∧ t.phase ≠ lastByte.phase) ∧
    (∃ t, exec .endStream s1 = .next t ∧ t.phase ≠ s1.phase) ∧
    (∃ t, exec (.wrCmd 1#32) s1 = .next t ∧ t.phase ≠ s1.phase) ∧
    ∃ t, exec .rst s1 = .next t ∧ t.phase ≠ s1.phase :=
  ⟨⟨_, rfl, by decide⟩, ⟨_, rfl, by decide⟩, ⟨_, rfl, by decide⟩, ⟨_, rfl, by decide⟩⟩

/-- Both alternatives of the premise: DRAIN, and idle with an operation off the stream port. -/
theorem witness_RecordedErrorIsKept :
    (∃ t, exec (.push 0x55#8) { inPhase .drain 0#32 with err := 4#3 } = .next t ∧ (inPhase .drain 0#32).phase = .drain) ∧
    ∃ t, exec (.wrCtrl 3#32) { inPhase .idle 0#32 with err := 4#3, done := true } = .next t ∧
      (inPhase .idle 0#32).phase = .idle ∧ (Instr.wrCtrl 3#32).port ≠ .stream :=
  ⟨⟨_, rfl, by decide⟩, _, rfl, by decide, by decide⟩

/-- V97. -/
theorem witness_EachErrorHasItsOwnCause_tooShort :
    LegalState (inPhase .len 2#32) ∧ (inPhase .len 2#32).err = 0#3 ∧
    ∃ t, exec .endStream (inPhase .len 2#32) = .next t ∧ t.err = 1#3 :=
  ⟨legal_of_items (by decide) (by decide) (by decide), by decide, _, rfl, by decide⟩

/-- V79. -/
theorem witness_EachErrorHasItsOwnCause_badMagic :
    LegalState (inPhase .magic 7#32) ∧ (inPhase .magic 7#32).err = 0#3 ∧
    ∃ t, exec (.push 0x0B#8) (inPhase .magic 7#32) = .next t ∧ t.err = 2#3 :=
  ⟨legal_of_items (by decide) (by decide) (by decide), by decide, _, rfl, by decide⟩

/-- V92. -/
theorem witness_EachErrorHasItsOwnCause_invalidType :
    LegalState lastByteBadType ∧ lastByteBadType.err = 0#3 ∧
    ∃ t, exec (.push 0x4D#8) lastByteBadType = .next t ∧ t.err = 3#3 :=
  ⟨legal_of_items (by decide) (by decide) (by decide), by decide, _, rfl, by decide⟩

/-- V91. -/
theorem witness_EachErrorHasItsOwnCause_checksumMismatch :
    LegalState lastByte ∧ lastByte.err = 0#3 ∧ ∃ t, exec (.push 0x6E#8) lastByte = .next t ∧ t.err = 4#3 :=
  ⟨legal_of_items (by decide) (by decide) (by decide), by decide, _, rfl, by decide⟩

theorem witness_ControlBitsHaveTwoWriters :
    ∃ t, exec (.wrCtrl 3#32) State.reset = .next t ∧ t.ctrlParse ≠ State.reset.ctrlParse := ⟨_, rfl, by decide⟩

/-- A byte fed to `crc`, and the preset at the fourth length byte (V81). -/
theorem witness_CrcRegisterHasTheseWriters :
    (∃ t, exec (.push 0x68#8) s1 = .next t ∧ t.crc ≠ s1.crc) ∧
    ∃ t, exec (.push 0x2A#8) { inPhase .len 3#32 with crc := 0x12345678#32 } = .next t ∧ t.crc ≠ 0x12345678#32 :=
  ⟨⟨_, rfl, by decide⟩, _, rfl, by decide⟩

theorem witness_OnlyTwoHostWritesHaveAnEffect :
    ((Instr.wrCtrl 3#32).port = .host ∧
      ∃ t, exec (.wrCtrl 3#32) State.reset = .next t ∧ elements t ≠ elements State.reset) ∧
    (Instr.wrCmd 1#32).port = .host ∧ ∃ t, exec (.wrCmd 1#32) s1 = .next t ∧ elements t ≠ elements s1 :=
  ⟨⟨by decide, _, rfl, by decide⟩, by decide, _, rfl, by decide⟩

/-- Two states that differ outside the twelve elements only. -/
theorem witness_EveryStateBitIsReadable :
    (∀ a : RegAddr, a ≠ 1#4 → a ≤ 8#4 → regRead a s1 = regRead a { s1 with hRdata := 7#32 }) ∧
    s1 ≠ { s1 with hRdata := 7#32 } := by decide

theorem witness_ControlWriteOnlyWhileIdle : State.reset.phase = .idle ∧ s1.phase ≠ .idle := by decide

theorem witness_RawStreamComputesTheCrc32 :
    { State.reset with inputs := streamInputs [0x31#8, 0x32#8] }.phase = .idle ∧
    { State.reset with inputs := streamInputs [0x31#8, 0x32#8] }.ctrlParse = false ∧ [0x31#8, 0x32#8] ≠ [] ∧
    { State.reset with inputs := streamInputs [0x31#8, 0x32#8] }.inputs =
      bytesInputs [0x31#8, 0x32#8] ++ [aloneInput .endStream] ∧
    { State.reset with inputs := streamInputs [0x31#8, 0x32#8] }.inputs = streamInputs [0x31#8, 0x32#8] ++ [] := by
  decide

/-- The right preamble, and one whose first byte is wrong. -/
theorem witness_PreambleIsDecidedAtTheEighthByte :
    ∀ bs ∈ [Config.magic, 0x88#8 :: Config.magic.tail],
      { inPhase .idle 0#32 with inputs := bytesInputs bs }.phase = .idle ∧
      (inPhase .idle 0#32).ctrlParse = true ∧ (inPhase .idle 0#32).ctrlHdr = true ∧ bs.length = 8 ∧
      { inPhase .idle 0#32 with inputs := bytesInputs bs }.inputs = bytesInputs bs ++ [] := by decide

/-- A frame of type RuSt with one payload byte. -/
def frameA : Frame := ⟨0x52755374#32, [0x41#8]⟩

/-- The checksum of V130: 0xFC626605. -/
theorem witness_SerializedFrameRoundTrips :
    atBoundary (inPhase .len 0#32) ∧ (inPhase .len 0#32).err = 0#3 ∧ tvalid frameA.typ = true ∧
    serialize frameA = some [0x00#8, 0x00#8, 0x00#8, 0x01#8, 0x52#8, 0x75#8, 0x53#8, 0x74#8, 0x41#8,
      0xFC#8, 0x62#8, 0x66#8, 0x05#8] := by decide +kernel

/-- A wrong checksum field, and an invalid type with the right field (0x728E904D, V92). -/
theorem witness_TamperedFrameFails :
    atBoundary (inPhase .len 0#32) ∧ (tvalid frameA.typ = false ∨ 0xFC626604#32 ≠ frameChecksum frameA) ∧
    serializeWith frameA 0xFC626604#32 = some [0x00#8, 0x00#8, 0x00#8, 0x01#8, 0x52#8, 0x75#8, 0x53#8, 0x74#8, 0x41#8,
      0xFC#8, 0x62#8, 0x66#8, 0x04#8] ∧
    tvalid 0x52757374#32 = false ∧ frameChecksum ⟨0x52757374#32, [0x68#8, 0x69#8]⟩ = 0x728E904D#32 ∧
    serializeWith ⟨0x52757374#32, [0x68#8, 0x69#8]⟩ 0x728E904D#32 = some [0x00#8, 0x00#8, 0x00#8, 0x02#8, 0x52#8,
      0x75#8, 0x73#8, 0x74#8, 0x68#8, 0x69#8, 0x72#8, 0x8E#8, 0x90#8, 0x4D#8] := by decide +kernel

/-- The empty container, and a container of one frame. -/
theorem witness_SerializedContainerRoundTrips :
    (inPhase .idle 0#32).phase = .idle ∧ (inPhase .idle 0#32).ctrlParse = true ∧ (inPhase .idle 0#32).ctrlHdr = true ∧
    (∀ f ∈ [frameA], tvalid f.typ = true) ∧ serializeContainer [] = some Config.magic ∧
    serializeContainer [frameA] = some (Config.magic ++ [0x00#8, 0x00#8, 0x00#8, 0x01#8, 0x52#8, 0x75#8, 0x53#8, 0x74#8,
      0x41#8, 0xFC#8, 0x62#8, 0x66#8, 0x05#8]) := by decide +kernel

theorem witness_StreamVerdictIsTheBufferedVerdict :
    ∀ h ∈ [true, false],
      { inPhase .idle 0#32 with ctrlHdr := h, inputs := streamInputs [0x89#8, 0x50#8] }.phase = .idle ∧
      { inPhase .idle 0#32 with ctrlHdr := h }.ctrlParse = true ∧
      (if h then parseContainer [0x89#8, 0x50#8] else parseBuffer [0x89#8, 0x50#8]) = ⟨[], some .tooShort⟩ ∧
      { inPhase .idle 0#32 with ctrlHdr := h, inputs := streamInputs [0x89#8, 0x50#8] }.inputs =
        streamInputs [0x89#8, 0x50#8] ++ [] := by decide

theorem witness_ConsumerGetsAllFramesOrNothing :
    { inPhase .idle 0#32 with inputs := streamInputs Config.magic }.phase = .idle ∧
    (inPhase .idle 0#32).ctrlParse = true ∧
    { inPhase .idle 0#32 with inputs := streamInputs Config.magic }.inputs = streamInputs Config.magic ++ [] := by decide

/-- A payload of one byte, and one of 2^32 bytes. -/
theorem witness_OversizedPayloadHasNoFrame :
    frameA.payload.length < 2 ^ 32 ∧
    ∃ f : Frame, 2 ^ 32 ≤ f.payload.length := by
  refine ⟨by decide, ⟨0#32, List.replicate (2 ^ 32) 0#8⟩, ?_⟩
  show 2 ^ 32 ≤ (List.replicate (2 ^ 32) 0#8).length
  rw [List.length_replicate]

end Sys2Proof.Tests
end

section
/-! PROOF. The frame rules of the model's own fields: an operation of one port acts on the twelve elements the
same way whatever `h_rdata`, earlier events and coming inputs stand beside them (R7, R8; log entries 1, 3 and 10). -/

namespace Sys2Proof.Proofs

open Sys2Proof.Machine

/-- The state with another host-side output, other coming inputs, and events `pre` before its own. -/
def reframe (x : Word) (pre : List OutEvent) (ins : List StepInput) (s : State) : State :=
  { s with hRdata := x, events := pre ++ s.events, inputs := ins }

section Fields
variable (x : Word) (pre : List OutEvent) (ins : List StepInput) (s : State)

@[simp] theorem reframe_ctrlParse : (reframe x pre ins s).ctrlParse = s.ctrlParse := rfl
@[simp] theorem reframe_ctrlHdr : (reframe x pre ins s).ctrlHdr = s.ctrlHdr := rfl
@[simp] theorem reframe_phase : (reframe x pre ins s).phase = s.phase := rfl
@[simp] theorem reframe_cnt : (reframe x pre ins s).cnt = s.cnt := rfl
@[simp] theorem reframe_len : (reframe x pre ins s).len = s.len := rfl
@[simp] theorem reframe_typ : (reframe x pre ins s).typ = s.typ := rfl
@[simp] theorem reframe_crcRx : (reframe x pre ins s).crcRx = s.crcRx := rfl
@[simp] theorem reframe_crc : (reframe x pre ins s).crc = s.crc := rfl
@[simp] theorem reframe_nfr : (reframe x pre ins s).nfr = s.nfr := rfl
@[simp] theorem reframe_err : (reframe x pre ins s).err = s.err := rfl
@[simp] theorem reframe_done : (reframe x pre ins s).done = s.done := rfl
@[simp] theorem reframe_mbad : (reframe x pre ins s).mbad = s.mbad := rfl
@[simp] theorem reframe_hRdata : (reframe x pre ins s).hRdata = x := rfl
@[simp] theorem reframe_events : (reframe x pre ins s).events = pre ++ s.events := rfl
@[simp] theorem reframe_inputs : (reframe x pre ins s).inputs = ins := rfl
@[simp] theorem calcOf_reframe : calcOf (reframe x pre ins s) = calcOf s := rfl

@[simp] theorem elements_reframe : elements (reframe x pre ins s) = elements s := rfl

/-- Every state is its twelve elements with the model's own fields put back. -/
theorem reframe_elements : reframe s.hRdata s.events s.inputs (elements s) = s := by
  simp [reframe, elements]

/-- Blanking the events and choosing the other two fields is a reframing of the twelve elements. -/
theorem quiet_eq_reframe :
    { s with inputs := ins, hRdata := x, events := [] } = reframe x [] ins (elements s) := rfl

end Fields

section Updates
variable (x : Word) (pre : List OutEvent) (ins : List StepInput) (s : State)

theorem goTo_reframe (p : Phase) (c : Word) :
    goTo p c (reframe x pre ins s) = reframe x pre ins (goTo p c s) := rfl
theorem shiftLen_reframe (d : Byte) :
    shiftLen d (reframe x pre ins s) = reframe x pre ins (shiftLen d s) := rfl
theorem shiftTyp_reframe (d : Byte) :
    shiftTyp d (reframe x pre ins s) = reframe x pre ins (shiftTyp d s) := rfl
theorem shiftCrcRx_reframe (d : Byte) :
    shiftCrcRx d (reframe x pre ins s) = reframe x pre ins (shiftCrcRx d s) := rfl
theorem feedCrc_reframe (d : Byte) :
    feedCrc d (reframe x pre ins s) = reframe x pre ins (feedCrc d s) := rfl
theorem presetCrc_reframe : presetCrc (reframe x pre ins s) = reframe x pre ins (presetCrc s) := rfl
theorem countFrame_reframe : countFrame (reframe x pre ins s) = reframe x pre ins (countFrame s) := rfl
theorem noteMismatch_reframe (c : Bool) :
    noteMismatch c (reframe x pre ins s) = reframe x pre ins (noteMismatch c s) := rfl
theorem raiseError_reframe (e : ErrorKind) :
    raiseError e (reframe x pre ins s) = reframe x pre ins (raiseError e s) := rfl
theorem takeError_reframe (e : ErrorKind) :
    takeError e (reframe x pre ins s) = reframe x pre ins (takeError e s) := rfl
theorem startStream_reframe : startStream (reframe x pre ins s) = reframe x pre ins (startStream s) := rfl

/-- An emitted event stands behind the events already there. -/
theorem emit_reframe (e : OutEvent) : emit e (reframe x pre ins s) = reframe x pre ins (emit e s) := by
  simp [emit, reframe]

theorem startIfIdle_reframe : startIfIdle (reframe x pre ins s) = reframe x pre ins (startIfIdle s) := by
  rcases startIfIdle_cases s with ⟨hp, h⟩ | ⟨hp, h⟩ <;> rw [h]
  · exact (startIfIdle_idle (s := reframe x pre ins s) hp).trans (startStream_reframe x pre ins s)
  · exact startIfIdle_busy hp

theorem endStreamNow_reframe : endStreamNow (reframe x pre ins s) = reframe x pre ins (endStreamNow s) := by
  simp [endStreamNow, emit, reframe, eosOf, calcOf]

end Updates

section Beats
variable (x : Word) (pre : List OutEvent) (ins : List StepInput) (d : Byte) (s : State)

theorem pushMagic_reframe : pushMagic d (reframe x pre ins s) = reframe x pre ins (pushMagic d s) := by
  by_cases hc : s.cnt = 7#32
  · cases hb : (noteMismatch (d != magicByte s.cnt) s).mbad <;>
      simp_all [pushMagic, noteMismatch_reframe, takeError_reframe, goTo_reframe]
  · simp [pushMagic, hc, noteMismatch_reframe, goTo_reframe]

theorem pushLen_reframe : pushLen d (reframe x pre ins s) = reframe x pre ins (pushLen d s) := by
  by_cases hc : s.cnt = 3#32 <;> simp [pushLen, hc, shiftLen_reframe, presetCrc_reframe, goTo_reframe]

theorem pushTyp_reframe : pushTyp d (reframe x pre ins s) = reframe x pre ins (pushTyp d s) := by
  by_cases hc : s.cnt = 3#32 <;> by_cases hl : s.len = 0#32 <;>
    simp [pushTyp, hc, hl, shiftTyp_reframe, feedCrc_reframe, goTo_reframe, emit_reframe]

theorem pushPay_reframe : pushPay d (reframe x pre ins s) = reframe x pre ins (pushPay d s) := by
  by_cases hc : s.cnt = 1#32 <;> simp [pushPay, hc, feedCrc_reframe, goTo_reframe, emit_reframe]

theorem judgeFrame_reframe : judgeFrame (reframe x pre ins s) = reframe x pre ins (judgeFrame s) := by
  cases ht : tvalid s.typ <;> by_cases hc : s.crcRx = calcOf s <;>
    simp [judgeFrame, ht, hc, takeError_reframe, countFrame_reframe, goTo_reframe]

theorem pushCrcf_reframe : pushCrcf d (reframe x pre ins s) = reframe x pre ins (pushCrcf d s) := by
  by_cases hc : s.cnt = 3#32 <;>
    simp [pushCrcf, frmOf, hc, shiftCrcRx_reframe, judgeFrame_reframe, goTo_reframe, emit_reframe]

theorem pushArm_reframe : pushArm d (reframe x pre ins s) = reframe x pre ins (pushArm d s) := by
  cases hp : s.phase <;> simp only [pushArm, reframe_phase, hp]
  case raw => exact feedCrc_reframe x pre ins s d
  case magic => exact pushMagic_reframe x pre ins d s
  case len => exact pushLen_reframe x pre ins d s
  case typ => exact pushTyp_reframe x pre ins d s
  case pay => exact pushPay_reframe x pre ins d s
  case crcf => exact pushCrcf_reframe x pre ins d s
  case drain => rfl

/-- PUSH reads and writes the twelve elements only, and adds its event behind those already there. -/
theorem pushBeat_reframe : pushBeat d (reframe x pre ins s) = reframe x pre ins (pushBeat d s) := by
  rw [pushBeat, startIfIdle_reframe, pushArm_reframe, pushBeat]

/-- END reads and writes the twelve elements only, and adds its event behind those already there. -/
theorem endBeat_reframe : endBeat (reframe x pre ins s) = reframe x pre ins (endBeat s) := by
  have hshort : endIsShort (reframe x pre ins (startIfIdle s)) = endIsShort (startIfIdle s) := rfl
  by_cases hr : (startIfIdle s).phase = .raw
  · simp [endBeat, endRaw, hr, startIfIdle_reframe, endStreamNow_reframe]
  · cases he : endIsShort (startIfIdle s) <;>
      simp [endBeat, endParse, hr, he, hshort, startIfIdle_reframe, endStreamNow_reframe, raiseError_reframe]

end Beats

/-! ### The operations by port -/

theorem writeCtrl_reframe (x : Word) (pre : List OutEvent) (ins : List StepInput) (v : Word) (s : State) :
    writeCtrl v (reframe x pre ins s) = reframe x pre ins (writeCtrl v s) := by
  by_cases hp : s.phase = .idle
  · simp [writeCtrl, hp]
    rfl
  · simp [writeCtrl, hp]

theorem writeCmd_reframe (x : Word) (pre : List OutEvent) (ins : List StepInput) (v : Word) (s : State) :
    writeCmd v (reframe x pre ins s) = reframe x pre ins (writeCmd v s) := by
  have clear : clearStream (reframe x pre ins s) = reframe x pre ins (clearStream s) := rfl
  cases hv : clrBit v <;> simp [writeCmd, hv, clear]

theorem regWrite_reframe (x : Word) (pre : List OutEvent) (ins : List StepInput) (a : RegAddr) (v : Word)
    (s : State) : regWrite a v (reframe x pre ins s) = reframe x pre ins (regWrite a v s) := by
  unfold regWrite
  match a.toNat with
  | 0 => exact writeCtrl_reframe x pre ins v s
  | 1 => exact writeCmd_reframe x pre ins v s
  | _ + 2 => rfl

/-- A host operation is, in every state, the same kind of access to the same word (R170, R171, R181 to R183). -/
theorem host_access {i : Instr} (hi : i.port = .host) :
    (∀ s, exec i s = .next (driveRdata 0#32 s)) ∨
    (∃ a, ∀ s, exec i s = .next (readAccess a s)) ∨
    (∃ a v, ∀ s, exec i s = .next (writeAccess a v s)) := by
  cases i <;> simp only [Instr.port, reduceCtorEq] at hi <;>
    first
    | exact .inl fun _ => rfl
    | exact .inr (.inl ⟨_, fun _ => rfl⟩)
    | exact .inr (.inr ⟨_, _, fun _ => rfl⟩)

/-- A host operation reads the twelve elements alone; the events and the coming inputs stay (log entry 10). -/
theorem exec_host_of_elements {i : Instr} (hi : i.port = .host) (s : State) :
    ∃ y t, ∀ s', elements s' = elements s → exec i s' = .next (reframe y s'.events s'.inputs t) := by
  obtain noAccess | ⟨a, read⟩ | ⟨a, v, write⟩ := host_access hi
  · refine ⟨0#32, elements s, fun s' hs => ?_⟩
    rw [noAccess, ← hs]
    simp [driveRdata, reframe, elements]
  · refine ⟨regRead a (elements s), elements s, fun s' hs => ?_⟩
    have same : regRead a s' = regRead a (elements s') := rfl
    rw [read, ← hs, readAccess_eq, same]
    simp [reframe, elements]
  · refine ⟨0#32, regWrite a v (elements s), fun s' hs => ?_⟩
    have same : regWrite a v s' = reframe s'.hRdata s'.events s'.inputs (regWrite a v (elements s')) := by
      rw [← regWrite_reframe, reframe_elements]
    rw [write, ← hs, writeAccess, same]
    rfl

/-- A stream operation reads the twelve elements alone; `h_rdata` and the coming inputs stay, and the events are its own
(log entry 10). -/
theorem exec_stream_of_elements {i : Instr} (hi : i.port = .stream) (s : State) :
    ∃ t, ∀ s', elements s' = elements s → exec i s' = .next (reframe s'.hRdata [] s'.inputs t) := by
  have quiet : ∀ s', elements s' = elements s →
      quietStream s' = reframe s'.hRdata [] s'.inputs (elements s) := fun s' hs => by rw [← hs]; rfl
  obtain rfl | ⟨d, rfl⟩ | rfl := stream_cases hi
  · exact ⟨elements s, fun s' hs => congrArg _ (quiet s' hs)⟩
  · exact ⟨pushBeat d (elements s), fun s' hs => by simp only [exec, execPush, quiet s' hs, pushBeat_reframe]⟩
  · exact ⟨endBeat (elements s), fun s' hs => by simp only [exec, execEndStream, quiet s' hs, endBeat_reframe]⟩

end Sys2Proof.Proofs
end

section
/-! PROOF. The step as a whole: it always answers, and two events of one step are two steps of one event each. -/

namespace Sys2Proof.Proofs

open Sys2Proof.Machine

/-- Every operation answers a next state with the same coming inputs (R7). -/
theorem exec_answers (i : Instr) (s : State) : ∃ t, exec i s = .next t ∧ t.inputs = s.inputs := by
  obtain rfl | stream | host := port_cases i
  · exact ⟨resetAll s, rfl, resetAll_inputs s⟩
  · obtain ⟨t, ht⟩ := exec_stream_of_elements stream s
    exact ⟨_, ht s rfl, reframe_inputs ..⟩
  · obtain ⟨y, t, ht⟩ := exec_host_of_elements host s
    exact ⟨_, ht s rfl, reframe_inputs ..⟩

/-- Every step answers a next state and uses up its own input (R7). -/
theorem step_answers (s : State) : ∃ t, step s = .next t ∧ t.inputs = s.inputs.tail := by
  cases hr : (nextInput s).rst
  · obtain ⟨s1, h1, hi1⟩ := exec_answers (decodeHost (nextInput s).h) (dropInput s)
    obtain ⟨t, h2, hi2⟩ := exec_answers (decodeStream (nextInput s).s) s1
    exact ⟨t, by simp [step, hr, h1, h2], by simp [hi2, hi1]⟩
  · obtain ⟨t, h, hi⟩ := exec_answers .rst (dropInput s)
    exact ⟨t, by simp [step, hr, h], hi⟩

/-- Settles O9. -/
theorem everyEventAndStepHasAResult : Obligations.EveryEventAndStepHasAResult :=
  ⟨exec_answers, step_answers⟩

/-- Settles O8. The host operation reads the twelve elements only, so it answers alike in both runs; the beat then reads
the same twelve elements, whether `h_rdata` was driven in this step or in the one before. -/
theorem jointStepIsTwoSingleEventSteps : Obligations.JointStepIsTwoSingleEventSteps := by
  intro s w h rest
  obtain ⟨y, t, host⟩ := exec_host_of_elements (decodeHost_port h) s
  obtain ⟨v, beat⟩ := exec_stream_of_elements (decodeStream_port w) t
  have joint : step { s with inputs := ⟨false, w, h⟩ :: rest } = .next (reframe y [] rest v) := by
    rw [step_of_inputs rfl, host _ (by rfl), andThen_next, beat _ (by rfl)]
    rfl
  have hostOnly : step { s with inputs := ⟨false, 0#10, h⟩ :: ⟨false, w, 0#38⟩ :: rest } =
      .next (reframe y [] (⟨false, w, 0#38⟩ :: rest) (elements t)) := by
    rw [step_of_inputs rfl, host _ (by rfl)]
    rfl
  have streamOnly : step (reframe y [] (⟨false, w, 0#38⟩ :: rest) (elements t)) =
      .next (reframe 0#32 [] rest v) := by
    rw [step_stream_alone rfl, beat _ (by rfl)]
  exact ⟨_, _, _, joint, hostOnly, streamOnly, rfl, rfl, rfl, rfl, rfl, rfl⟩

end Sys2Proof.Proofs
end

section
/-! PROOF. The bytes of a stream as a fold of PUSH, and the run of steps that presents them. -/

namespace Sys2Proof.Proofs

open Sys2Proof.Machine

/-- The state after `PUSH` beats for all the bytes, with every output event of theirs kept. -/
def pushAll (bs : List Byte) (s : State) : State := bs.foldl (fun t d => pushBeat d t) s

@[simp] theorem pushAll_nil (s : State) : pushAll [] s = s := rfl

@[simp] theorem pushAll_cons (d : Byte) (bs : List Byte) (s : State) :
    pushAll (d :: bs) s = pushAll bs (pushBeat d s) := rfl

theorem pushAll_append (as bs : List Byte) (s : State) :
    pushAll (as ++ bs) s = pushAll bs (pushAll as s) := List.foldl_append ..

theorem pushAll_reframe (x : Word) (pre : List OutEvent) (ins : List StepInput) (bs : List Byte) (s : State) :
    pushAll bs (reframe x pre ins s) = reframe x pre ins (pushAll bs s) := by
  induction bs generalizing s with
  | nil => rfl
  | cons d bs ih => rw [pushAll_cons, pushBeat_reframe, ih, pushAll_cons]

/-- The events of the bytes stand behind the events already there, and do not depend on them. -/
theorem pushAll_events (bs : List Byte) (s : State) :
    (pushAll bs s).events = s.events ++ (pushAll bs (elements s)).events := by
  conv_lhs => rw [← reframe_elements s, pushAll_reframe]
  rfl

theorem elements_pushAll (bs : List Byte) (s : State) :
    elements (pushAll bs s) = elements (pushAll bs (elements s)) := by
  conv_lhs => rw [← reframe_elements s, pushAll_reframe]
  rfl

/-- The event of `END` stands behind the events already there, and does not depend on them. -/
theorem endBeat_events (s : State) : (endBeat s).events = s.events ++ (endBeat (elements s)).events := by
  conv_lhs => rw [← reframe_elements s, endBeat_reframe]
  rfl

theorem elements_endBeat (s : State) : elements (endBeat s) = elements (endBeat (elements s)) := by
  conv_lhs => rw [← reframe_elements s, endBeat_reframe]
  rfl

/-- The run over presented bytes is the fold of PUSH over the twelve elements, its events in step order (R58, R86). -/
theorem runSteps_bytes {bs : List Byte} {s : State} {rest : List StepInput}
    (hs : s.inputs = bytesInputs bs ++ rest) :
    ∃ t, runSteps bs.length s = some (t, (pushAll bs (elements s)).events) ∧
      elements t = elements (pushAll bs (elements s)) ∧ t.inputs = rest := by
  induction bs generalizing s with
  | nil => exact ⟨s, rfl, rfl, hs⟩
  | cons d bs ih =>
    have hs' : s.inputs = aloneInput (.push d) :: (bytesInputs bs ++ rest) := hs
    have pushed : pushBeat d { s with inputs := bytesInputs bs ++ rest, hRdata := 0#32, events := [] } =
        reframe 0#32 [] (bytesInputs bs ++ rest) (pushBeat d (elements s)) := by
      rw [quiet_eq_reframe, pushBeat_reframe]
    obtain ⟨t, run, elems, ins⟩ :=
      ih (s := reframe 0#32 [] (bytesInputs bs ++ rest) (pushBeat d (elements s))) rfl
    rw [elements_reframe] at run elems
    refine ⟨t, ?_, ?_, ins⟩
    · rw [List.length_cons, runSteps_push bs.length hs', pushed, run, pushAll_cons,
        pushAll_events bs (pushBeat d (elements s))]
      rfl
    · rw [elems, pushAll_cons, ← elements_pushAll]

/-- The run over a whole stream is the fold of PUSH over the twelve elements, then END (R12, R142). -/
theorem runSteps_stream {bs : List Byte} {s : State} {rest : List StepInput}
    (hs : s.inputs = streamInputs bs ++ rest) :
    ∃ t, runSteps (bs.length + 1) s = some (t, (endBeat (pushAll bs (elements s))).events) ∧
      elements t = elements (endBeat (pushAll bs (elements s))) ∧ t.inputs = rest := by
  obtain ⟨u, run, elems, ins⟩ :=
    runSteps_bytes (rest := aloneInput .endStream :: rest) (by rw [hs, streamInputs, List.append_assoc]; rfl)
  have ended := step_end_alone ins
  rw [quiet_eq_reframe, endBeat_reframe, elems] at ended
  refine ⟨reframe 0#32 [] rest (endBeat (elements (pushAll bs (elements s)))), ?_, ?_, rfl⟩
  · rw [runSteps_add run (runSteps_of_step 0 ended), endBeat_events]
    simp
  · rw [elements_reframe, ← elements_endBeat]

end Sys2Proof.Proofs
end

section
/-! PROOF. The four-byte fields of a frame and the bytes of the preamble, as the stream side takes them in. -/

namespace Sys2Proof.Proofs

open Sys2Proof.Machine

/-! ### Fields -/

/-- Taking in the four bytes of a value leaves the value, whatever the register held (R76, R77). -/
theorem shiftIn_be32 (r n : Word) : (be32 n).foldl shiftIn r = n := by
  ext i hi
  simp only [be32, shiftIn, List.foldl, BitVec.getElem_or, BitVec.getElem_shiftLeft, BitVec.getElem_setWidth,
    BitVec.getLsbD_extractLsb']
  grind

/-- The bytes of a big-endian value are the bytes it was read from (R76, R77). -/
theorem be32_beWord (b0 b1 b2 b3 : Byte) : be32 (beWord b0 b1 b2 b3) = [b0, b1, b2, b3] := by
  simp only [be32, beWord, List.cons.injEq, and_true]
  refine ⟨?_, ?_, ?_, ?_⟩ <;>
  · ext i hi
    simp only [BitVec.getElem_extractLsb', BitVec.getLsbD_append]
    grind

/-! ### PUSH in a busy phase -/

section Busy
variable {s : State} (d : Byte)

theorem pushBeat_magic (hp : s.phase = .magic) : pushBeat d s = pushMagic d s := by
  simp [pushBeat, pushArm, hp]

theorem pushBeat_len (hp : s.phase = .len) : pushBeat d s = pushLen d s := by
  simp [pushBeat, pushArm, hp]

theorem pushBeat_typ (hp : s.phase = .typ) : pushBeat d s = pushTyp d s := by
  simp [pushBeat, pushArm, hp]

theorem pushBeat_pay (hp : s.phase = .pay) : pushBeat d s = pushPay d s := by
  simp [pushBeat, pushArm, hp]

theorem pushBeat_crcf (hp : s.phase = .crcf) : pushBeat d s = pushCrcf d s := by
  simp [pushBeat, pushArm, hp]

theorem pushBeat_drain (hp : s.phase = .drain) : pushBeat d s = s := by
  simp [pushBeat, pushArm, pushDrain, hp]

end Busy

/-- The length field from a frame boundary (R134). -/
theorem pushAll_lenField {s : State} (hb : atBoundary s) (n : Word) :
    pushAll (be32 n) s = { s with phase := .typ, cnt := 0#32, len := n, crc := Config.crcPreset } := by
  obtain ⟨hp, hc⟩ := hb
  have field := shiftIn_be32 s.len n
  simp only [be32, List.foldl] at field
  simp [be32, pushBeat, startIfIdle, pushArm, pushLen, goTo, shiftLen, presetCrc, hp, hc, field]

/-- The type field, and the header event (R135). -/
theorem pushAll_typField {s : State} (hp : s.phase = .typ) (hc : s.cnt = 0#32) (t : Word) :
    pushAll (be32 t) s = { s with
      phase := if s.len = 0#32 then .crcf else .pay, cnt := s.len, typ := t
      crc := crcFeed s.crc (be32 t), events := s.events ++ [.hdr s.len t] } := by
  have field := shiftIn_be32 s.typ t
  simp only [be32, List.foldl] at field
  by_cases hl : s.len = 0#32 <;>
    simp [be32, pushBeat, startIfIdle, pushArm, pushTyp, goTo, shiftTyp, feedCrc, emit, crcFeed, hp, hc, hl, field]

/-- The checksum field, and the verdict on the frame at its fourth byte (R137). -/
theorem pushAll_crcField {s : State} (hp : s.phase = .crcf) (hc : s.cnt = 0#32) (c : Word) :
    ∃ s1, s1 = { s with cnt := 3#32, crcRx := c } ∧
      pushAll (be32 c) s = emit (frmOf (judgeFrame s1)) (judgeFrame s1) := by
  refine ⟨_, rfl, ?_⟩
  have field := shiftIn_be32 s.crcRx c
  simp only [be32, List.foldl] at field
  simp [be32, pushBeat, startIfIdle, pushArm, pushCrcf, goTo, shiftCrcRx, hp, hc, field]

/-- The payload of a frame, one event per byte; a frame without payload bytes is in CRCF already (R135, R136). -/
theorem pushAll_payload (p : List Byte) {s : State} (hp : s.phase = if s.cnt = 0#32 then .crcf else .pay)
    (hc : s.cnt = BitVec.ofNat 32 p.length) (hlen : p.length < 2 ^ 32) :
    pushAll p s = { s with
      phase := .crcf, cnt := 0#32, crc := crcFeed s.crc p, events := s.events ++ p.map .pay } := by
  induction p generalizing s with
  | nil =>
    have hc : s.cnt = 0#32 := hc
    rw [if_pos hc] at hp
    simp [← hp, ← hc]
  | cons d p ih =>
    have hlen' : p.length + 1 < 2 ^ 32 := hlen
    have hcnt : s.cnt.toNat = p.length + 1 := by
      rw [hc, BitVec.toNat_ofNat]
      exact Nat.mod_eq_of_lt hlen
    have hpay : s.phase = .pay := by rw [hp, if_neg (by bv_omega)]
    rw [pushAll_cons, pushBeat_pay d hpay]
    obtain ⟨s1, rfl, ⟨hlast, h⟩ | ⟨hinner, h⟩⟩ := pushPay_cases d s
    · have hnil : p = [] := List.eq_nil_of_length_eq_zero (by bv_omega)
      simp [h, hnil, goTo, emit, feedCrc]
    · have hcnt' : (s.cnt - 1#32).toNat = p.length := by bv_omega
      rw [h, ih]
      · simp [goTo, emit, feedCrc]
      · rw [goTo_phase, goTo_cnt, if_neg (by bv_omega), hpay]
      · exact BitVec.eq_of_toNat_eq (by rw [goTo_cnt, hcnt', BitVec.toNat_ofNat, Nat.mod_eq_of_lt (by omega)])
      · omega

/-! ### Whole frames -/

/-- The state after a frame's length, type and payload: the header and payload events are emitted, and the checksum
field is still to come (R134 to R136). -/
def payloadArrived (f : Frame) (s : State) : State :=
  { s with
    phase := .crcf, cnt := 0#32, len := BitVec.ofNat 32 f.payload.length, typ := f.typ
    crc := crcFeed Config.crcPreset (coveredBytes f)
    events := s.events ++ ([.hdr (BitVec.ofNat 32 f.payload.length) f.typ] ++ f.payload.map .pay) }

/-- The state in which the verdict on a frame falls (R137). -/
def frameArrived (f : Frame) (c : Word) (s : State) : State := { payloadArrived f s with cnt := 3#32, crcRx := c }

/-- The computed checksum in that state is the frame's (R107). -/
theorem calcOf_frameArrived (f : Frame) (c : Word) (s : State) : calcOf (frameArrived f c s) = frameChecksum f := rfl

/-- A frame from a frame boundary, up to the payload. -/
theorem pushAll_payloadArrived {s : State} (hb : atBoundary s) (f : Frame) (hlen : f.payload.length < 2 ^ 32) :
    pushAll (be32 (BitVec.ofNat 32 f.payload.length) ++ be32 f.typ ++ f.payload) s = payloadArrived f s := by
  rw [pushAll_append, pushAll_append, pushAll_lenField hb, pushAll_typField rfl rfl,
    pushAll_payload f.payload rfl rfl hlen]
  simp [payloadArrived, coveredBytes, crcFeed_append]

/-- A whole frame with any checksum field from a frame boundary: the verdict at its last byte (R137). -/
theorem pushAll_frame {s : State} (hb : atBoundary s) (f : Frame) (c : Word) (hlen : f.payload.length < 2 ^ 32) :
    pushAll (frameLayout (BitVec.ofNat 32 f.payload.length) f c) s =
      emit (frmOf (judgeFrame (frameArrived f c s))) (judgeFrame (frameArrived f c s)) := by
  rw [frameLayout, pushAll_append, pushAll_payloadArrived hb f hlen]
  obtain ⟨s1, rfl, h⟩ := pushAll_crcField (s := payloadArrived f s) rfl rfl c
  exact h

/-- The events of a frame with a checksum field, by the code its verdict leaves in `err` (R80, R137). -/
def frameEvents (e : BitVec 3) (f : Frame) (c : Word) : List OutEvent :=
  [.hdr (BitVec.ofNat 32 f.payload.length) f.typ] ++ f.payload.map .pay ++
    [.frm e (BitVec.ofNat 32 f.payload.length) f.typ c (frameChecksum f)]

/-- A good frame: its events, one more frame counted, and a frame boundary again (R137, R144). -/
theorem pushAll_goodFrame {s : State} (hb : atBoundary s) {f : Frame} (hlen : f.payload.length < 2 ^ 32)
    (ht : tvalid f.typ = true) :
    pushAll (frameLayout (BitVec.ofNat 32 f.payload.length) f (frameChecksum f)) s =
      { frameArrived f (frameChecksum f) s with
        phase := .len, cnt := 0#32, nfr := s.nfr + 1#32
        events := s.events ++ frameEvents s.err f (frameChecksum f) } := by
  rw [pushAll_frame hb f _ hlen]
  obtain ⟨bad, -⟩ | ⟨-, bad, -⟩ | ⟨-, -, h⟩ := judgeFrame_cases (frameArrived f (frameChecksum f) s)
  · exact absurd (ht.symm.trans bad) (by decide)
  · exact absurd rfl bad
  · rw [h]
    simp [frameEvents, frameArrived, payloadArrived, frmOf, goTo, countFrame, emit, frameChecksum, crc32, calcOf]

/-- The error of a complete frame that is not good: InvalidType before ChecksumMismatch (R196). -/
def frameError (f : Frame) : ErrorKind := if tvalid f.typ then .checksumMismatch else .invalidType

/-- A frame that is not good: its events with the error code, and DRAIN (R137, R146, R197). -/
theorem pushAll_badFrame {s : State} (hb : atBoundary s) {f : Frame} {c : Word} (hlen : f.payload.length < 2 ^ 32)
    (hbad : tvalid f.typ = false ∨ c ≠ frameChecksum f) :
    pushAll (frameLayout (BitVec.ofNat 32 f.payload.length) f c) s =
      { frameArrived f c s with
        phase := .drain, cnt := 0#32, err := errorCode (frameError f)
        events := s.events ++ frameEvents (errorCode (frameError f)) f c } := by
  rw [pushAll_frame hb f _ hlen]
  have htyp : (frameArrived f c s).typ = f.typ := rfl
  obtain ⟨ht, h⟩ | ⟨ht, -, h⟩ | ⟨ht, hc, -⟩ := judgeFrame_cases (frameArrived f c s) <;> rw [htyp] at ht
  · rw [h]
    simp [frameError, ht, frameEvents, frameArrived, payloadArrived, frmOf, takeError, goTo, raiseError, emit,
      frameChecksum, crc32, calcOf]
  · rw [h]
    simp [frameError, ht, frameEvents, frameArrived, payloadArrived, frmOf, takeError, goTo, raiseError, emit,
      frameChecksum, crc32, calcOf]
  · rw [calcOf_frameArrived] at hc
    have hc : c = frameChecksum f := hc
    exact absurd hbad (by simp [ht, hc])

end Sys2Proof.Proofs
end

section
/-! PROOF. Streams that stop inside a field, the preamble, and DRAIN: what the bytes leave for END to judge. -/

namespace Sys2Proof.Proofs

open Sys2Proof.Machine

/-! ### The end of a stream -/

/-- END in a busy phase: TooShort off a frame boundary, and otherwise the error the stream has already (R140, R105). -/
theorem endBeat_busy {s : State} (hp : s.phase ≠ .idle) :
    (endBeat s).err = (if endIsShort s then 1#3 else s.err) ∧ (endBeat s).nfr = s.nfr := by
  obtain ⟨s1, rfl, h⟩ := endBeat_cases s
  rw [startIfIdle_busy hp] at h
  obtain ⟨hshort, h⟩ | ⟨hshort, h⟩ := h
  · simp [h, hshort, errorCode]
  · simp [h, hshort]

/-- END of a stream that stopped inside a preamble or a frame: TooShort (R140, R191). -/
theorem endBeat_short {s : State} (h : endIsShort s = true) :
    (endBeat s).err = errorCode .tooShort ∧ (endBeat s).nfr = s.nfr := by
  have hp : s.phase ≠ .idle := by
    intro hp
    simp [endIsShort, hp] at h
  simpa [h, errorCode] using endBeat_busy hp

/-- END at a frame boundary raises nothing (R140). -/
theorem endBeat_boundary {s : State} (hb : atBoundary s) : (endBeat s).err = s.err ∧ (endBeat s).nfr = s.nfr := by
  obtain ⟨hp, hc⟩ := hb
  simpa [endIsShort, hp, hc] using endBeat_busy (s := s) (by simp [hp])

/-- END in DRAIN raises nothing (R140). -/
theorem endBeat_drain {s : State} (hp : s.phase = .drain) : (endBeat s).err = s.err ∧ (endBeat s).nfr = s.nfr := by
  simpa [endIsShort, hp] using endBeat_busy (s := s) (by simp [hp])

/-- DRAIN discards every byte (R138). -/
theorem pushAll_drain {s : State} (hp : s.phase = .drain) (bs : List Byte) : pushAll bs s = s := by
  induction bs with
  | nil => rfl
  | cons d bs ih => rw [pushAll_cons, pushBeat_drain d hp, ih]

/-! ### Bytes that do not complete a field -/

/-- How many bytes a phase with an upward count takes (R22, R23). -/
def fieldBytes : Phase → Nat
  | .magic => 8
  | .len | .typ | .crcf => 4
  | .idle | .raw | .pay | .drain => 0

/-- A byte that does not complete its field is counted, and the phase stays (R133, R134, R135, R137). -/
theorem pushBeat_partField {s : State} (d : Byte) (h : s.cnt.toNat + 1 < fieldBytes s.phase) :
    (pushBeat d s).phase = s.phase ∧ (pushBeat d s).cnt.toNat = s.cnt.toNat + 1 ∧ (pushBeat d s).nfr = s.nfr := by
  have counted : s.cnt.toNat + 1 < 8 → (s.cnt + 1#32).toNat = s.cnt.toNat + 1 := by bv_omega
  cases hp : s.phase <;> simp only [hp, fieldBytes] at h
  case idle | raw | pay | drain => omega
  case magic =>
    rw [pushBeat_magic d hp]
    obtain ⟨s1, rfl, ⟨hc, -⟩ | ⟨hc, -⟩ | ⟨-, h'⟩⟩ := pushMagic_cases d s
    · simp [hc] at h
    · simp [hc] at h
    · simp [h', hp, counted h]
  case len =>
    rw [pushBeat_len d hp]
    obtain ⟨hc, -⟩ | ⟨-, h'⟩ := pushLen_cases d s
    · simp [hc] at h
    · simp [h', hp, counted (by omega)]
  case typ =>
    rw [pushBeat_typ d hp]
    obtain ⟨s1, rfl, ⟨hc, -⟩ | ⟨hc, -⟩ | ⟨-, h'⟩⟩ := pushTyp_cases d s
    · simp [hc] at h
    · simp [hc] at h
    · simp [h', hp, counted (by omega)]
  case crcf =>
    rw [pushBeat_crcf d hp]
    obtain ⟨s1, rfl, ⟨hc, -⟩ | ⟨-, h'⟩⟩ := pushCrcf_cases d s
    · simp [hc] at h
    · simp [h', hp, counted (by omega)]

theorem pushAll_partField (bs : List Byte) {s : State} (h : s.cnt.toNat + bs.length < fieldBytes s.phase) :
    (pushAll bs s).phase = s.phase ∧ (pushAll bs s).cnt.toNat = s.cnt.toNat + bs.length ∧
    (pushAll bs s).nfr = s.nfr := by
  induction bs generalizing s with
  | nil => exact ⟨rfl, rfl, rfl⟩
  | cons d bs ih =>
    rw [List.length_cons] at h
    obtain ⟨hp, hc, hn⟩ := pushBeat_partField (s := s) d (by omega)
    obtain ⟨hp', hc', hn'⟩ := ih (s := pushBeat d s) (by rw [hp, hc]; omega)
    exact ⟨hp'.trans hp, by rw [pushAll_cons, hc', hc, List.length_cons]; omega, hn'.trans hn⟩

/-- A payload that does not come to its end stays in PAY (R136). -/
theorem pushAll_partPayload (p : List Byte) {s : State} (hp : s.phase = .pay) (h : p.length < s.cnt.toNat) :
    (pushAll p s).phase = .pay ∧ (pushAll p s).nfr = s.nfr := by
  induction p generalizing s with
  | nil => exact ⟨hp, rfl⟩
  | cons d p ih =>
    rw [List.length_cons] at h
    rw [pushAll_cons, pushBeat_pay d hp]
    obtain ⟨s1, rfl, ⟨hc, -⟩ | ⟨hc, h'⟩⟩ := pushPay_cases d s
    · simp [hc] at h
    · simpa [h'] using ih (s := pushPay d s) (by simp [h', hp]) (by simp [h']; bv_omega)

/-- A stream that stops with some bytes of a field is short, and so is one that stops before any byte of a field other
than the length (R140, R191). -/
theorem pushAll_partField_short (bs : List Byte) {s : State} (hc : s.cnt = 0#32) (h : bs.length < fieldBytes s.phase)
    (hne : s.phase = .len → bs ≠ []) :
    endIsShort (pushAll bs s) = true ∧ (pushAll bs s).nfr = s.nfr := by
  obtain ⟨hp', hc', hn⟩ := pushAll_partField (s := s) bs (by simpa [hc] using h)
  refine ⟨?_, hn⟩
  cases hp : s.phase <;> simp only [hp, fieldBytes] at h <;> simp only [endIsShort, hp', hp]
  case idle | raw | drain => omega
  case len =>
    have hpos : 0 < bs.length := List.length_pos_iff.mpr (hne hp)
    exact bne_iff_ne.mpr (by bv_omega)

/-! ### The preamble -/

/-- The preamble from its byte `i` on (R79). -/
theorem magic_drop {i : Nat} (hi : i < 8) :
    Config.magic.drop i = magicByte (BitVec.ofNat 32 i) :: Config.magic.drop (i + 1) := by
  interval_cases i <;> rfl

/-- The state after the eighth preamble byte: BadMagic when a byte mismatched, else a frame boundary (R133, R192). -/
def preambleDecided (mismatch : Bool) (s : State) : State :=
  { s with
    mbad := mismatch, cnt := 0#32, phase := if mismatch then .drain else .len
    err := if mismatch then errorCode .badMagic else s.err }

/-- The eighth preamble byte decides (R133). -/
theorem pushMagic_last {s : State} (d : Byte) (hc : s.cnt = 7#32) :
    pushMagic d s = preambleDecided (s.mbad || d != magicByte s.cnt) s := by
  simp only [pushMagic, noteMismatch, hc, if_true]
  cases s.mbad || d != magicByte 7#32 <;> rfl

/-- The bytes that complete the preamble: BadMagic unless they are the rest of the magic bytes and none before them
mismatched. -/
theorem pushAll_magic (q : List Byte) {i : Nat} {s : State} (hp : s.phase = .magic) (hc : s.cnt = BitVec.ofNat 32 i)
    (hi : i + q.length = 8) (hne : q ≠ []) :
    pushAll q s = preambleDecided (s.mbad || decide (q ≠ Config.magic.drop i)) s := by
  induction q generalizing s i with
  | nil => exact absurd rfl hne
  | cons d q ih =>
    rw [List.length_cons] at hi
    have noted : (s.mbad || decide (d :: q ≠ Config.magic.drop i)) =
        ((s.mbad || d != magicByte s.cnt) || decide (q ≠ Config.magic.drop (i + 1))) := by
      rw [magic_drop (by omega), hc]
      by_cases hd : d = magicByte (BitVec.ofNat 32 i) <;> simp [hd]
    rw [pushAll_cons, pushBeat_magic d hp, noted]
    by_cases hq : q = []
    · have hi7 : i = 7 := by simpa [hq] using hi
      rw [pushMagic_last d (by rw [hc, hi7]), hq, hi7]
      simp [Config.magic]
    · have h7 : s.cnt ≠ 7#32 := by
        have := List.length_pos_iff.mpr hq
        bv_omega
      obtain ⟨s1, rfl, ⟨h7', -⟩ | ⟨h7', -⟩ | ⟨-, h⟩⟩ := pushMagic_cases d s
      · exact absurd h7' h7
      · exact absurd h7' h7
      · rw [h, ih (i := i + 1) (by exact hp) (by rw [goTo_cnt, hc, BitVec.ofNat_add]) (by omega) hq]
        rfl

end Sys2Proof.Proofs
end

section
/-! PROOF. The document's parse of a buffer (R142, R143, R196), in terms of the frame layouts the block takes in. -/

namespace Sys2Proof.Proofs

open Sys2Proof.Machine

/-- A split buffer is a frame's layout, with the checksum field it came with, and the bytes after it (R74). -/
theorem splitFrame_some {bs rest : List Byte} {f : Frame} {c : Word} (h : splitFrame bs = some (f, c, rest)) :
    f.payload.length < 2 ^ 32 ∧ bs = frameLayout (BitVec.ofNat 32 f.payload.length) f c ++ rest := by
  unfold splitFrame at h
  split at h
  · rename_i l0 l1 l2 l3 t0 t1 t2 t3 body
    simp only at h
    split at h
    · rename_i c0 c1 c2 c3 after hdrop
      cases h
      have hlen : (beWord l0 l1 l2 l3).toNat ≤ body.length := by
        have := congrArg List.length hdrop
        simp only [List.length_drop, List.length_cons] at this
        omega
      have hfield : (body.take (beWord l0 l1 l2 l3).toNat).length = (beWord l0 l1 l2 l3).toNat :=
        List.length_take_of_le hlen
      have hbody := List.take_append_drop (beWord l0 l1 l2 l3).toNat body
      rw [hdrop] at hbody
      refine ⟨by rw [hfield]; exact BitVec.isLt _, ?_⟩
      rw [hfield, BitVec.ofNat_toNat, BitVec.setWidth_eq]
      simp only [frameLayout, be32_beWord]
      conv_lhs => rw [← hbody]
      simp
    · cases h
  · cases h

/-- The parse of nothing succeeds with no frame, whatever the bound (R143). -/
theorem parseFrames_nil (k : Nat) : parseFrames k [] = ⟨[], none⟩ := by cases k <;> rfl

/-- The parse ends with TooShort where no complete frame is left (R196). -/
theorem parseFrames_short (k : Nat) {bs : List Byte} (hne : bs ≠ []) (h : splitFrame bs = none) :
    parseFrames (k + 1) bs = ⟨[], some .tooShort⟩ := by
  cases bs with
  | nil => exact absurd rfl hne
  | cons b bs => simp only [parseFrames, h]

/-- The parse ends at a frame that is not good (R196). -/
theorem parseFrames_bad (k : Nat) {bs rest : List Byte} {f : Frame} {c : Word}
    (h : splitFrame bs = some (f, c, rest)) (hbad : tvalid f.typ = false ∨ c ≠ frameChecksum f) :
    parseFrames (k + 1) bs = ⟨[], some (frameError f)⟩ := by
  cases bs with
  | nil => cases h
  | cons b bs => cases ht : tvalid f.typ <;> simp_all [parseFrames, frameError]

/-- The parse goes on after a good frame (R143). -/
theorem parseFrames_good (k : Nat) {bs rest : List Byte} {f : Frame}
    (h : splitFrame bs = some (f, frameChecksum f, rest)) (ht : tvalid f.typ = true) :
    parseFrames (k + 1) bs = ⟨f :: (parseFrames k rest).frames, (parseFrames k rest).error⟩ := by
  cases bs with
  | nil => cases h
  | cons b bs => simp [parseFrames, h, ht]

/-- A buffer with a whole header and no complete frame lacks payload or checksum bytes. -/
theorem length_lt_of_splitFrame_none {l0 l1 l2 l3 t0 t1 t2 t3 : Byte} {body : List Byte}
    (h : splitFrame (l0 :: l1 :: l2 :: l3 :: t0 :: t1 :: t2 :: t3 :: body) = none) :
    body.length < (beWord l0 l1 l2 l3).toNat + 4 := by
  simp only [splitFrame] at h
  split at h
  · cases h
  · rename_i hshort
    have : (body.drop (beWord l0 l1 l2 l3).toNat).length < 4 := by
      match hd : body.drop (beWord l0 l1 l2 l3).toNat with
      | [] | [_] | [_, _] | [_, _, _] => simp
      | c0 :: c1 :: c2 :: c3 :: after => exact absurd hd (hshort c0 c1 c2 c3 after)
    rw [List.length_drop] at this
    omega

/-- Too few bytes for the payload and the checksum field leave the block inside one of them (R136, R137). -/
theorem pushAll_partBody (body : List Byte) {s : State} (hp : s.phase = if s.cnt = 0#32 then .crcf else .pay)
    (h : body.length < s.cnt.toNat + 4) :
    endIsShort (pushAll body s) = true ∧ (pushAll body s).nfr = s.nfr := by
  by_cases hpart : body.length < s.cnt.toNat
  · have hpay : s.phase = .pay := by rw [hp, if_neg (by bv_omega)]
    obtain ⟨hp', hn⟩ := pushAll_partPayload body hpay hpart
    exact ⟨by simp [endIsShort, hp'], hn⟩
  · have hlen : (body.take s.cnt.toNat).length = s.cnt.toNat := List.length_take_of_le (by omega)
    rw [← List.take_append_drop s.cnt.toNat body, pushAll_append,
      pushAll_payload _ hp (by rw [hlen, BitVec.ofNat_toNat, BitVec.setWidth_eq]) (by rw [hlen]; exact BitVec.isLt _)]
    exact pushAll_partField_short _ rfl (by simp [fieldBytes]; omega) (by simp)

/-- A buffer with bytes that has no complete frame at its front leaves the block short of a frame boundary (R140,
R191). -/
theorem pushAll_splitFrame_none {bs : List Byte} {s : State} (hb : atBoundary s) (hne : bs ≠ [])
    (h : splitFrame bs = none) : endIsShort (pushAll bs s) = true ∧ (pushAll bs s).nfr = s.nfr := by
  match bs, hne, h with
  | [_], hne, _ | [_, _], hne, _ | [_, _, _], hne, _ =>
    exact pushAll_partField_short _ hb.2 (by simp [hb.1, fieldBytes]) fun _ => hne
  | l0 :: l1 :: l2 :: l3 :: rest, _, h =>
    have cut : l0 :: l1 :: l2 :: l3 :: rest = be32 (beWord l0 l1 l2 l3) ++ rest := by rw [be32_beWord]; rfl
    rw [cut, pushAll_append, pushAll_lenField hb]
    match rest, h with
    | [], _ | [_], _ | [_, _], _ | [_, _, _], _ =>
      exact pushAll_partField_short _ rfl (by simp [fieldBytes]) (by simp)
    | t0 :: t1 :: t2 :: t3 :: body, h =>
      have cut : t0 :: t1 :: t2 :: t3 :: body = be32 (beWord t0 t1 t2 t3) ++ body := by rw [be32_beWord]; rfl
      rw [cut, pushAll_append, pushAll_typField rfl rfl]
      exact pushAll_partBody body rfl (length_lt_of_splitFrame_none h)

/-! ### The verdict of a parse -/

/-- The error code that reports a parse's failure, 0 for none (R190). -/
def verdictCode : Option ErrorKind → BitVec 3
  | none => 0#3
  | some e => errorCode e

/-- The bytes that took the block from `s` to `t` end as the parse `r` says: END reports its error and its number of
frames, and when there is no error, the events are those of its frames to the consumer of R224. -/
structure EndsAs (r : ParseResult) (s t : State) : Prop where
  err : (endBeat t).err = verdictCode r.error
  nfr : (endBeat t).nfr = s.nfr + BitVec.ofNat 32 r.frames.length
  commits : r.error = none → ∃ es, t.events = s.events ++ es ∧
    ∀ fs more, consume fs [] (es ++ more) = consume (fs ++ r.frames) [] more

/-- A stream that fails before any good frame. -/
theorem EndsAs.of_error {e : ErrorKind} {s t : State} (herr : (endBeat t).err = errorCode e)
    (hnfr : (endBeat t).nfr = s.nfr) : EndsAs ⟨[], some e⟩ s t :=
  ⟨herr, by simp [hnfr], fun h => by cases h⟩

theorem EndsAs.of_short {s t : State} (h : endIsShort t = true ∧ t.nfr = s.nfr) : EndsAs ⟨[], some .tooShort⟩ s t :=
  .of_error (endBeat_short h.1).1 ((endBeat_short h.1).2.trans h.2)

theorem EndsAs.of_drain {e : ErrorKind} {s t : State} (hp : t.phase = .drain) (herr : t.err = errorCode e)
    (hnfr : t.nfr = s.nfr) : EndsAs ⟨[], some e⟩ s t :=
  .of_error ((endBeat_drain hp).1.trans herr) ((endBeat_drain hp).2.trans hnfr)

/-- The consumer buffers payload bytes (R224). -/
theorem consume_payload (p : List Byte) (fs : List Frame) (pay : List Byte) (more : List OutEvent) :
    consume fs pay (p.map .pay ++ more) = consume fs (pay ++ p) more := by
  induction p generalizing pay with
  | nil => simp
  | cons d p ih => simp [consume, ih]

/-- The consumer takes the events of a good frame as that frame (R224). -/
theorem consume_goodFrame (fs : List Frame) (f : Frame) (c : Word) (more : List OutEvent) :
    consume fs [] (frameEvents 0#3 f c ++ more) = consume (fs ++ [f]) [] more := by
  simp [frameEvents, consume, consume_payload]

/-- A stream that ends at a frame boundary, with no frame since. -/
theorem EndsAs.of_boundary {s : State} (hb : atBoundary s) (herr : s.err = 0#3) : EndsAs ⟨[], none⟩ s s where
  err := (endBeat_boundary hb).1.trans herr
  nfr := by simp [(endBeat_boundary hb).2]
  commits _ := ⟨[], by simp, by simp⟩

/-- A good frame comes first, and the rest of the stream ends as the rest of the parse. -/
theorem EndsAs.cons {r : ParseResult} {f : Frame} {s s1 t : State} (h : EndsAs r s1 t) (hnfr : s1.nfr = s.nfr + 1#32)
    (hevents : s1.events = s.events ++ frameEvents 0#3 f (frameChecksum f)) :
    EndsAs ⟨f :: r.frames, r.error⟩ s t where
  err := h.err
  nfr := by rw [h.nfr, hnfr, List.length_cons, BitVec.ofNat_add]; ac_rfl
  commits hr := by
    obtain ⟨es, hes, hconsume⟩ := h.commits hr
    refine ⟨frameEvents 0#3 f (frameChecksum f) ++ es, by rw [hes, hevents, List.append_assoc], fun fs more => ?_⟩
    rw [List.append_assoc, consume_goodFrame, hconsume, List.append_assoc]
    rfl

/-- What END reports of bytes sent from a frame boundary is the parse of those bytes (R142, R143, R196). -/
theorem endsAs_parseFrames (k : Nat) {bs : List Byte} {s : State} (hk : bs.length ≤ k) (hb : atBoundary s)
    (herr : s.err = 0#3) : EndsAs (parseFrames k bs) s (pushAll bs s) := by
  induction k generalizing bs s with
  | zero =>
    obtain rfl := List.eq_nil_of_length_eq_zero (Nat.le_zero.mp hk)
    rw [parseFrames_nil]
    exact .of_boundary hb herr
  | succ k ih =>
    by_cases hne : bs = []
    · subst hne
      rw [parseFrames_nil]
      exact .of_boundary hb herr
    match hsplit : splitFrame bs with
    | none =>
      rw [parseFrames_short k hne hsplit]
      exact .of_short (pushAll_splitFrame_none hb hne hsplit)
    | some (f, c, rest) =>
      obtain ⟨hlen, hbs⟩ := splitFrame_some hsplit
      by_cases hgood : tvalid f.typ = true ∧ c = frameChecksum f
      · obtain ⟨ht, rfl⟩ := hgood
        have hrest : rest.length ≤ k := by
          have := congrArg List.length hbs
          rw [List.length_append, frameLayout_length] at this
          omega
        rw [parseFrames_good k hsplit ht, hbs, pushAll_append, pushAll_goodFrame hb hlen ht]
        exact .cons (ih hrest ⟨rfl, rfl⟩ herr) rfl (by rw [herr])
      · have hbad : tvalid f.typ = false ∨ c ≠ frameChecksum f := by simpa [or_iff_not_imp_left] using hgood
        rw [parseFrames_bad k hsplit hbad, hbs, pushAll_append, pushAll_badFrame hb hlen hbad, pushAll_drain rfl]
        exact .of_drain rfl rfl rfl

/-! ### A whole stream -/

/-- The first beat starts the stream, so a stream from IDLE is one from the state `start_stream` leaves (R131, R132). -/
theorem endBeat_pushAll_idle {s : State} (hp : s.phase = .idle) (bs : List Byte) :
    endBeat (pushAll bs s) = endBeat (pushAll bs (startStream s)) := by
  have once : startIfIdle (startStream s) = startIfIdle s := by
    rw [startIfIdle_idle hp]
    exact startIfIdle_busy (startIfIdle_idle hp ▸ startIfIdle_phase_ne_idle s)
  cases bs with
  | nil => rw [pushAll_nil, pushAll_nil, endBeat, endBeat, once]
  | cons d bs => rw [pushAll_cons, pushAll_cons, pushBeat, pushBeat, once]

/-- The first eight bytes of a container decide on its preamble (R133). -/
theorem pushAll_preamble {p : List Byte} {s : State} (hp : s.phase = .magic) (hc : s.cnt = 0#32)
    (hm : s.mbad = false) (hlen : p.length = 8) :
    pushAll p s = preambleDecided (decide (p ≠ Config.magic)) s := by
  rw [pushAll_magic p (i := 0) hp hc (by omega) (by rintro rfl; cases hlen), hm, Bool.false_or, List.drop_zero]

/-- What END reports of a stream in parse mode is the buffered parse of its bytes, of a container or of frames by
CTRL.HDR (R131, R142, R143). -/
theorem endsAs_parse {s : State} (hparse : s.ctrlParse = true) (bs : List Byte) :
    EndsAs (if s.ctrlHdr then parseContainer bs else parseBuffer bs) (startStream s) (pushAll bs (startStream s)) := by
  cases hh : s.ctrlHdr
  · have hb : atBoundary (startStream s) := ⟨by simp [startPhase, hparse, hh], rfl⟩
    exact endsAs_parseFrames bs.length (Nat.le_refl _) hb rfl
  · have hp : (startStream s).phase = .magic := by simp [startPhase, hparse, hh]
    rw [if_pos rfl, parseContainer]
    by_cases hlen : bs.length < 8
    · rw [if_pos hlen]
      exact .of_short (pushAll_partField_short bs rfl (by rw [hp]; exact hlen) fun hp' => by rw [hp] at hp'; cases hp')
    · have preamble := pushAll_preamble hp rfl rfl (List.length_take_of_le (Nat.le_of_not_lt hlen))
      have cut : pushAll bs (startStream s) =
          pushAll (bs.drop 8) (preambleDecided (decide (bs.take 8 ≠ Config.magic)) (startStream s)) := by
        rw [← preamble, ← pushAll_append, List.take_append_drop]
      rw [if_neg hlen, cut]
      by_cases hm : bs.take 8 = Config.magic
      · have frames := endsAs_parseFrames (bs.drop 8).length (Nat.le_refl _)
          (s := preambleDecided false (startStream s)) ⟨rfl, rfl⟩ rfl
        rw [if_neg (not_not_intro hm), decide_eq_false (not_not_intro hm)]
        exact ⟨frames.err, frames.nfr, frames.commits⟩
      · rw [if_pos hm, decide_eq_true hm, pushAll_drain rfl]
        exact .of_drain rfl rfl rfl

/-! ### What the consumer gets -/

theorem hasEos_append (as bs : List OutEvent) : hasEos (as ++ bs) = (hasEos as || hasEos bs) := List.any_append

/-- The verdict itself emits nothing (R137). -/
theorem judgeFrame_events (s : State) : (judgeFrame s).events = s.events := by
  obtain ⟨-, h⟩ | ⟨-, -, h⟩ | ⟨-, -, h⟩ := judgeFrame_cases s <;> rw [h] <;> rfl

/-- PUSH never ends a stream (R141). -/
theorem pushBeat_hasEos (d : Byte) (s : State) : hasEos (pushBeat d s).events = hasEos s.events := by
  have emitted : ∀ es e, hasEos [e] = false → hasEos (es ++ [e]) = hasEos es := fun es e he => by
    rw [hasEos_append, he, Bool.or_false]
  rw [pushBeat, ← startIfIdle_events s]
  obtain ⟨-, h⟩ | ⟨-, h⟩ | ⟨-, h⟩ | ⟨-, h⟩ | ⟨-, h⟩ | ⟨-, h⟩ | ⟨-, h⟩ | ⟨-, h⟩ := pushArm_cases d (startIfIdle s) <;>
    rw [h]
  · rw [feedCrc_events]
  · obtain ⟨s1, rfl, ⟨-, -, h⟩ | ⟨-, -, h⟩ | ⟨-, h⟩⟩ := pushMagic_cases d (startIfIdle s) <;> rw [h] <;> rfl
  · obtain ⟨-, h⟩ | ⟨-, h⟩ := pushLen_cases d (startIfIdle s) <;> rw [h] <;> rfl
  · obtain ⟨s1, rfl, ⟨-, -, h⟩ | ⟨-, -, h⟩ | ⟨-, h⟩⟩ := pushTyp_cases d (startIfIdle s) <;> rw [h]
    · exact emitted _ _ rfl
    · exact emitted _ _ rfl
    · rfl
  · obtain ⟨s1, rfl, ⟨-, h⟩ | ⟨-, h⟩⟩ := pushPay_cases d (startIfIdle s) <;> rw [h] <;> exact emitted _ _ rfl
  · obtain ⟨s1, rfl, ⟨-, h⟩ | ⟨-, h⟩⟩ := pushCrcf_cases d (startIfIdle s) <;> rw [h]
    · exact (emitted _ _ rfl).trans (congrArg hasEos (judgeFrame_events _))
    · rfl

theorem pushAll_hasEos (bs : List Byte) (s : State) : hasEos (pushAll bs s).events = hasEos s.events := by
  induction bs generalizing s with
  | nil => rfl
  | cons d bs ih => rw [pushAll_cons, ih, pushBeat_hasEos]

/-- The consumer commits nothing when the only end of the stream reports an error (R224). -/
theorem consume_failed {es : List OutEvent} (hes : hasEos es = false) {e : BitVec 3} (he : e ≠ 0#3) (n shown : Word)
    (fs : List Frame) (pay : List Byte) : consume fs pay (es ++ [.eos e n shown]) = none := by
  induction es generalizing fs pay with
  | nil => simp [consume, he]
  | cons ev es ih =>
    have htail : hasEos es = false := (Bool.or_eq_false_iff.mp hes).2
    cases ev with
    | hdr | pay | frm => exact ih htail _ _
    | eos => cases hes

/-- Of a stream that ends as the parse `r`, the consumer commits the single result of `r` (R2, R143, R224). -/
theorem EndsAs.consume_eq {r : ParseResult} {s t : State} (h : EndsAs r s t) (hs : s.events = [])
    (ht : hasEos t.events = false) : consume [] [] (endBeat t).events = delivered r := by
  obtain ⟨-, -, -, hevents⟩ := endBeat_result t
  rw [hevents, eosOf, h.err]
  cases hr : r.error with
  | none =>
    obtain ⟨es, hes, hconsume⟩ := h.commits hr
    rw [hes, hs, List.nil_append, hconsume]
    simp [consume, delivered, verdictCode, hr]
  | some e =>
    rw [verdictCode, consume_failed ht (errorCode_ne_zero e), delivered, hr]

/-- Settles O57. The run is the fold of PUSH over the bytes and END, and that fold ends as the buffered parse. -/
theorem consumerGetsAllFramesOrNothing : Obligations.ConsumerGetsAllFramesOrNothing := by
  intro s bs rest hidle hparse hin
  obtain ⟨t, run, -, -⟩ := runSteps_stream hin
  refine ⟨t, _, run, ?_⟩
  rw [endBeat_pushAll_idle (s := elements s) hidle]
  exact (endsAs_parse (s := elements s) hparse bs).consume_eq rfl (pushAll_hasEos bs _)

end Sys2Proof.Proofs
end

section
/-! PROOF. What every step keeps: a predicate on the twelve elements that the five events of the block keep (R7), the
invariants of R41 by phase, and the frame count of a raw stream. -/

namespace Sys2Proof.Proofs

open Sys2Proof.Machine

/-! ### Invariants of every step -/

/-- `P` speaks of the twelve elements only, holds at reset, and is kept by whatever changes an element: a CTRL write while
idle, CLR, PUSH and END (R7, R56, R139). -/
structure KeptByEvents (P : State → Prop) : Prop where
  elements_iff : ∀ s, P (elements s) ↔ P s
  reset : P State.reset
  ctrl : ∀ s a b, P s → s.phase = .idle → P { s with ctrlParse := a, ctrlHdr := b }
  clear : ∀ s, P s → P (clearStream s)
  push : ∀ d s, P s → P (pushBeat d s)
  finish : ∀ s, P s → P (endBeat s)

section Kept
variable {P : State → Prop} (kept : KeptByEvents P)
include kept

theorem KeptByEvents.of_elements_eq {s t : State} (h : P s) (he : elements s = elements t) : P t := by
  rwa [← kept.elements_iff, ← he, kept.elements_iff]

theorem KeptByEvents.exec_host {i : Instr} (hi : i.port = .host) {s t : State} (he : exec i s = .next t)
    (h : P s) : P t := by
  obtain ⟨x, rfl | ⟨v, -, hp, rfl⟩ | ⟨v, -, -, rfl⟩⟩ := exec_host_cases hi he
  · exact kept.of_elements_eq h rfl
  · exact kept.of_elements_eq (kept.ctrl s (v.getLsbD 0) (v.getLsbD 1) h hp) rfl
  · exact kept.of_elements_eq (kept.clear s h) rfl

theorem KeptByEvents.exec_stream {i : Instr} (hi : i.port = .stream) {s t : State} (he : exec i s = .next t)
    (h : P s) : P t := by
  have quiet : P (quietStream s) := kept.of_elements_eq h rfl
  obtain rfl | ⟨d, rfl⟩ | rfl := stream_cases hi <;> cases he
  · exact quiet
  · exact kept.push d _ quiet
  · exact kept.finish _ quiet

theorem KeptByEvents.exec_rst {s t : State} (he : exec .rst s = .next t) : P t := by
  cases he
  exact kept.of_elements_eq kept.reset rfl

/-- What the events keep, every step keeps: a reset, or the host operation and then the beat (R59, R73). -/
theorem KeptByEvents.step {s t : State} (hs : step s = .next t) (h : P s) : P t := by
  have dropped : P (dropInput s) := kept.of_elements_eq h rfl
  simp only [Machine.step] at hs
  split at hs
  · exact kept.exec_rst hs
  · obtain ⟨u, host, beat⟩ := andThen_eq_next.mp hs
    exact kept.exec_stream (decodeStream_port _) beat (kept.exec_host (decodeHost_port _) host dropped)

end Kept

/-! ### The invariants of R41, phase by phase -/

/-- A parsed stream is under way without an error: what R41 items 4 to 8 say of the phases LEN, TYPE, PAY and CRCF. -/
def GoodSoFar (s : State) : Prop := s.err = 0#3 ∧ s.done = false ∧ s.mbad = false ∧ s.ctrlParse = true

/-- What R41 says of a state in a given phase. -/
def LegalIn : Phase → State → Prop
  | .idle, s => s.cnt = 0#32 ∧ s.err ≤ 4#3 ∧ (s.err = 1#3 → s.done = true) ∧ (s.err = 2#3 → s.mbad = true)
  | .raw, s => s.cnt = 0#32 ∧ s.err = 0#3 ∧ s.done = false ∧ s.mbad = false ∧ s.ctrlParse = false
  | .magic, s => s.cnt ≤ 7#32 ∧ s.err = 0#3 ∧ s.done = false ∧ s.ctrlParse = true ∧ s.ctrlHdr = true
  | .len, s | .typ, s | .crcf, s => s.cnt ≤ 3#32 ∧ GoodSoFar s
  | .pay, s => (1#32 ≤ s.cnt ∧ s.cnt ≤ s.len) ∧ GoodSoFar s
  | .drain, s => s.cnt = 0#32 ∧ s.done = false ∧ s.ctrlParse = true ∧
      (s.err = 2#3 ∧ s.mbad = true ∨ (s.err = 3#3 ∨ s.err = 4#3) ∧ s.mbad = false)

/-- R41, read phase by phase. -/
theorem legalState_iff (s : State) : LegalState s ↔ LegalIn s.phase s := by
  unfold LegalState invIdleCount invFieldCount invDrainError invActiveNoError invTooShortEnded invDoneIdle invBadMagic
    invMode invErrorCode
  cases hp : s.phase <;> simp only [LegalIn, GoodSoFar] <;> grind -ring -linarith

/-- Settles O3. -/
theorem invariantsHoldAtReset : Obligations.InvariantsHoldAtReset := by
  unfold Obligations.InvariantsHoldAtReset
  rw [legalState_iff]
  exact ⟨rfl, by decide, by decide, by decide⟩

theorem legalState_ctrl {s : State} (a b : Bool) (h : LegalState s) (hp : s.phase = .idle) :
    LegalState { s with ctrlParse := a, ctrlHdr := b } := by
  rw [legalState_iff] at h ⊢
  simp only [hp] at h ⊢
  exact h

theorem legalState_clearStream (s : State) : LegalState (clearStream s) := by
  rw [legalState_iff]
  simp [LegalIn]

/-- The stream starts in RAW, MAGIC or LEN, at count 0 and without an error (R131). -/
theorem legalState_startStream (s : State) : LegalState (startStream s) := by
  rw [legalState_iff]
  obtain ⟨parse, hp⟩ | ⟨parse, hdr, hp⟩ | ⟨parse, hdr, hp⟩ := startPhase_cases s
  · simp [LegalIn, hp, parse]
  · simp [LegalIn, hp, parse, hdr]
  · simp [LegalIn, GoodSoFar, hp, parse]

theorem legalState_startIfIdle {s : State} (h : LegalState s) : LegalState (startIfIdle s) := by
  obtain ⟨-, start⟩ | ⟨-, start⟩ := startIfIdle_cases s <;> rw [start]
  · exact legalState_startStream s
  · exact h

/-! ### PUSH and END keep the invariants -/

/-- A counter below its last value does not pass it when one more byte is counted (R23). -/
theorem count_succ_le {c m : Word} (h : c ≤ m) (hne : c ≠ m) : c + 1#32 ≤ m := by bv_omega

section Arms
variable {s : State} (d : Byte)

theorem legalState_pushMagic (h : LegalState s) (hp : s.phase = .magic) : LegalState (pushMagic d s) := by
  rw [legalState_iff] at h ⊢
  simp only [hp, LegalIn] at h
  obtain ⟨hcnt, herr, hdone, hparse, hhdr⟩ := h
  obtain ⟨s1, rfl, ⟨-, bad, e⟩ | ⟨-, good, e⟩ | ⟨hc, e⟩⟩ := pushMagic_cases d s <;> rw [e]
  · exact ⟨rfl, hdone, hparse, .inl ⟨rfl, bad⟩⟩
  · exact ⟨by simp, herr, hdone, good, hparse⟩
  · simp [LegalIn, hp, herr, hdone, hparse, hhdr, count_succ_le hcnt hc]

theorem legalState_pushLen (h : LegalState s) (hp : s.phase = .len) : LegalState (pushLen d s) := by
  rw [legalState_iff] at h ⊢
  simp only [hp, LegalIn] at h
  obtain ⟨hcnt, good⟩ := h
  obtain ⟨-, e⟩ | ⟨hc, e⟩ := pushLen_cases d s <;> rw [e]
  · exact ⟨by simp, good⟩
  · rw [goTo_phase, hp]
    exact ⟨count_succ_le hcnt hc, good⟩

theorem legalState_pushTyp (h : LegalState s) (hp : s.phase = .typ) : LegalState (pushTyp d s) := by
  rw [legalState_iff] at h ⊢
  simp only [hp, LegalIn] at h
  obtain ⟨hcnt, good⟩ := h
  obtain ⟨s1, rfl, ⟨-, -, e⟩ | ⟨-, hlen, e⟩ | ⟨hc, e⟩⟩ := pushTyp_cases d s <;> rw [e]
  · exact ⟨by simp, good⟩
  · have payload : 1#32 ≤ s.len ∧ s.len ≤ s.len := ⟨by bv_omega, by bv_omega⟩
    exact ⟨payload, good⟩
  · rw [goTo_phase, hp]
    exact ⟨count_succ_le hcnt hc, good⟩

theorem legalState_pushPay (h : LegalState s) (hp : s.phase = .pay) : LegalState (pushPay d s) := by
  rw [legalState_iff] at h ⊢
  simp only [hp, LegalIn] at h
  obtain ⟨⟨hone, hlen⟩, good⟩ := h
  obtain ⟨s1, rfl, ⟨-, e⟩ | ⟨hc, e⟩⟩ := pushPay_cases d s <;> rw [e]
  · exact ⟨by simp, good⟩
  · have left : 1#32 ≤ s.cnt - 1#32 ∧ s.cnt - 1#32 ≤ s.len := ⟨by bv_omega, by bv_omega⟩
    rw [goTo_phase, hp]
    exact ⟨left, good⟩

theorem legalState_judgeFrame (good : GoodSoFar s) : LegalState (judgeFrame s) := by
  rw [legalState_iff]
  obtain ⟨herr, hdone, hmbad, hparse⟩ := good
  obtain ⟨-, e⟩ | ⟨-, -, e⟩ | ⟨-, -, e⟩ := judgeFrame_cases s <;> rw [e]
  · simp [LegalIn, errorCode, hdone, hmbad, hparse]
  · simp [LegalIn, errorCode, hdone, hmbad, hparse]
  · simp [LegalIn, GoodSoFar, herr, hdone, hmbad, hparse]

theorem legalState_pushCrcf (h : LegalState s) (hp : s.phase = .crcf) : LegalState (pushCrcf d s) := by
  rw [legalState_iff] at h
  simp only [hp, LegalIn] at h
  obtain ⟨hcnt, good⟩ := h
  obtain ⟨s1, rfl, ⟨-, e⟩ | ⟨hc, e⟩⟩ := pushCrcf_cases d s <;> rw [e]
  · have judged : LegalState (judgeFrame (shiftCrcRx d s)) := legalState_judgeFrame good
    exact judged
  · rw [legalState_iff, goTo_phase, hp]
    exact ⟨count_succ_le hcnt hc, good⟩

theorem legalState_pushArm (h : LegalState s) : LegalState (pushArm d s) := by
  obtain ⟨-, e⟩ | ⟨-, e⟩ | ⟨hp, e⟩ | ⟨hp, e⟩ | ⟨hp, e⟩ | ⟨hp, e⟩ | ⟨hp, e⟩ | ⟨-, e⟩ := pushArm_cases d s <;> rw [e]
  · exact h
  · exact h
  · exact legalState_pushMagic d h hp
  · exact legalState_pushLen d h hp
  · exact legalState_pushTyp d h hp
  · exact legalState_pushPay d h hp
  · exact legalState_pushCrcf d h hp
  · exact h

end Arms

/-- An error that ends a stream is TooShort, in a stream that now is done, or one kept from DRAIN (R140, R199). -/
theorem legalState_endBeat {s : State} (h : LegalState s) : LegalState (endBeat s) := by
  obtain ⟨-, -, -, -, -, -, ⟨hbad, -⟩, -, hcode⟩ := legalState_startIfIdle h
  rw [legalState_iff]
  obtain ⟨s1, rfl, ⟨-, e⟩ | ⟨-, e⟩⟩ := endBeat_cases s <;> rw [e]
  · simp [LegalIn, errorCode]
  · exact ⟨rfl, hcode, fun _ => rfl, hbad⟩

theorem legalState_kept : KeptByEvents LegalState where
  elements_iff _ := Iff.rfl
  reset := invariantsHoldAtReset
  ctrl _ a b h hp := legalState_ctrl a b h hp
  clear s _ := legalState_clearStream s
  push d _ h := legalState_pushArm d (legalState_startIfIdle h)
  finish _ h := legalState_endBeat h

/-- Settles O4. In the reading of R41 by phase, each arm of PUSH leaves what the phase it goes to asks for. -/
theorem everyStepKeepsTheInvariants : Obligations.EveryStepKeepsTheInvariants :=
  fun _ _ h hs => legalState_kept.step hs h

/-! ### The frame count of a raw stream -/

/-- No good frame is counted in a raw stream (R28, R104). -/
def RawCountsNone (s : State) : Prop := s.phase = .raw → s.nfr = 0#32

/-- The verdict leads to a frame boundary or to DRAIN (R145). -/
theorem judgeFrame_phase (s : State) : (judgeFrame s).phase = .len ∨ (judgeFrame s).phase = .drain := by
  obtain ⟨-, e⟩ | ⟨-, -, e⟩ | ⟨-, -, e⟩ := judgeFrame_cases s <;> simp [e]

/-- No byte leads into RAW: each arm stays in its phase or goes to one of parse mode (R145). -/
theorem pushArm_phase_raw {d : Byte} {s : State} (h : (pushArm d s).phase = .raw) : s.phase = .raw := by
  cases hp : s.phase <;> simp only [pushArm, hp] at h
  case raw => rfl
  case idle => exact h
  case magic =>
    obtain ⟨s1, rfl, ⟨-, -, e⟩ | ⟨-, -, e⟩ | ⟨-, e⟩⟩ := pushMagic_cases d s <;> simp [e, hp] at h
  case len =>
    obtain ⟨-, e⟩ | ⟨-, e⟩ := pushLen_cases d s <;> simp [e, hp] at h
  case typ =>
    obtain ⟨s1, rfl, ⟨-, -, e⟩ | ⟨-, -, e⟩ | ⟨-, e⟩⟩ := pushTyp_cases d s <;> simp [e, hp] at h
  case pay =>
    obtain ⟨s1, rfl, ⟨-, e⟩ | ⟨-, e⟩⟩ := pushPay_cases d s <;> simp [e, hp] at h
  case crcf =>
    obtain ⟨s1, rfl, ⟨-, e⟩ | ⟨-, e⟩⟩ := pushCrcf_cases d s
    · obtain next | next := judgeFrame_phase (shiftCrcRx d s) <;> simp [e, next] at h
    · simp [e, hp] at h
  case drain => exact hp.symm.trans h

theorem rawCountsNone_startIfIdle {s : State} (h : RawCountsNone s) : RawCountsNone (startIfIdle s) := by
  obtain ⟨-, start⟩ | ⟨-, start⟩ := startIfIdle_cases s <;> rw [start]
  · exact fun _ => rfl
  · exact h

theorem rawCountsNone_pushArm (d : Byte) {s : State} (h : RawCountsNone s) : RawCountsNone (pushArm d s) := by
  intro hraw
  have hp := pushArm_phase_raw hraw
  have fed : pushArm d s = feedCrc d s := by simp [pushArm, pushRaw, hp]
  rw [fed]
  exact h hp

theorem rawCountsNone_kept : KeptByEvents RawCountsNone where
  elements_iff _ := Iff.rfl
  reset _ := rfl
  ctrl _ _ _ h _ := h
  clear _ _ _ := rfl
  push d _ h := rawCountsNone_pushArm d (rawCountsNone_startIfIdle h)
  finish s _ hraw := absurd ((endBeat_result s).1.symm.trans hraw) (by decide)

/-- Settles O27. A raw stream starts with the count 0, and no byte leads from another phase into RAW. -/
theorem rawStreamsCountNoFrames : Obligations.RawStreamsCountNoFrames :=
  ⟨rawCountsNone_kept.reset, fun _ _ h hs => rawCountsNone_kept.step hs h⟩

end Sys2Proof.Proofs
end

section
/-! PROOF. Who writes the CTRL bits and `crc`: what each operation leaves in them (R21, R27). -/

namespace Sys2Proof.Proofs

open Sys2Proof.Machine

/-- A stream operation leaves the CTRL bits alone (R21). -/
theorem exec_stream_keeps_ctrl {i : Instr} (hi : i.port = .stream) {s t : State} (he : exec i s = .next t) :
    t.ctrlParse = s.ctrlParse ∧ t.ctrlHdr = s.ctrlHdr := by
  obtain rfl | ⟨d, rfl⟩ | rfl := stream_cases hi <;> cases he
  · exact ⟨rfl, rfl⟩
  · exact (pushBeat_keeps d (quietStream s)).2.2
  · exact (endBeat_keeps (quietStream s)).2.2

/-- Settles O33. -/
theorem controlBitsHaveTwoWriters : Obligations.ControlBitsHaveTwoWriters := by
  intro i s t he
  obtain rst | stream | host := port_cases i
  · exact .inr (.inl rst)
  · exact .inl (exec_stream_keeps_ctrl stream he)
  · obtain ⟨x, rfl | ⟨v, hi, hp, rfl⟩ | ⟨v, -, -, rfl⟩⟩ := exec_host_cases host he
    · exact .inl ⟨rfl, rfl⟩
    · exact .inr (.inr ⟨hp, v, hi, rfl, rfl⟩)
    · exact .inl ⟨rfl, rfl⟩

/-! ### The CRC register after a beat -/

section Crc
variable (d : Byte) (s : State)

theorem pushMagic_crc : (pushMagic d s).crc = s.crc := by
  obtain ⟨s1, rfl, ⟨-, -, e⟩ | ⟨-, -, e⟩ | ⟨-, e⟩⟩ := pushMagic_cases d s <;> simp [e]

theorem pushLen_crc : (pushLen d s).crc = if s.cnt = 3#32 then Config.crcPreset else s.crc := by
  obtain ⟨hc, e⟩ | ⟨hc, e⟩ := pushLen_cases d s <;> simp [e, hc]

theorem pushTyp_crc : (pushTyp d s).crc = crcUpd s.crc d := by
  obtain ⟨s1, rfl, ⟨-, -, e⟩ | ⟨-, -, e⟩ | ⟨-, e⟩⟩ := pushTyp_cases d s <;> simp [e]

theorem pushPay_crc : (pushPay d s).crc = crcUpd s.crc d := by
  obtain ⟨s1, rfl, ⟨-, e⟩ | ⟨-, e⟩⟩ := pushPay_cases d s <;> simp [e]

theorem judgeFrame_crc : (judgeFrame s).crc = s.crc := by
  obtain ⟨-, e⟩ | ⟨-, -, e⟩ | ⟨-, -, e⟩ := judgeFrame_cases s <;> simp [e]

theorem pushCrcf_crc : (pushCrcf d s).crc = s.crc := by
  obtain ⟨s1, rfl, ⟨-, e⟩ | ⟨-, e⟩⟩ := pushCrcf_cases d s <;> simp [e, judgeFrame_crc]

/-- What `crc` holds after a byte, by the phase that takes it in (R27). -/
def crcAfterByte : Word :=
  match s.phase with
  | .raw | .typ | .pay => crcUpd s.crc d
  | .len => if s.cnt = 3#32 then Config.crcPreset else s.crc
  | .idle | .magic | .crcf | .drain => s.crc

theorem pushArm_crc : (pushArm d s).crc = crcAfterByte d s := by
  cases hp : s.phase <;> simp only [pushArm, crcAfterByte, hp]
  case raw => rfl
  case magic => exact pushMagic_crc d s
  case len => exact pushLen_crc d s
  case typ => exact pushTyp_crc d s
  case pay => exact pushPay_crc d s
  case crcf => exact pushCrcf_crc d s
  case drain => rfl

/-- The first byte of a stream: a raw stream starts from the preset, a parsed one leaves `crc` (R27, R131). -/
theorem pushBeat_crc_idle (hp : s.phase = .idle) :
    (pushBeat d s).crc = if s.ctrlParse = false then crcUpd Config.crcPreset d else s.crc := by
  rw [pushBeat, startIfIdle_idle hp, pushArm_crc]
  obtain ⟨parse, hstart⟩ | ⟨parse, -, hstart⟩ | ⟨parse, -, hstart⟩ := startPhase_cases s <;>
    simp [crcAfterByte, startCrc, hstart, parse]

theorem pushBeat_crc_busy (hp : s.phase ≠ .idle) : (pushBeat d s).crc = crcAfterByte d s := by
  rw [pushBeat, startIfIdle_busy hp, pushArm_crc]

/-- END changes `crc` only where it starts a raw stream (R27, R105). -/
theorem endBeat_crc :
    (endBeat s).crc = if s.phase = .idle ∧ s.ctrlParse = false then Config.crcPreset else s.crc := by
  have started : (endBeat s).crc = (startIfIdle s).crc := by
    obtain ⟨s1, rfl, ⟨-, e⟩ | ⟨-, e⟩⟩ := endBeat_cases s <;> simp [e]
  rw [started]
  obtain ⟨hp, e⟩ | ⟨hp, e⟩ := startIfIdle_cases s <;> simp [hp, startCrc]

end Crc

/-- Settles O34, from what each operation leaves in `crc`. -/
theorem crcRegisterHasTheseWriters : Obligations.CrcRegisterHasTheseWriters := by
  intro i s t he
  obtain rfl | stream | host := port_cases i
  · cases he
    exact .inr (.inl ⟨rfl, .inl rfl⟩)
  · obtain rfl | ⟨d, rfl⟩ | rfl := stream_cases stream <;> cases he
    · exact .inl rfl
    · by_cases hp : s.phase = .idle
      · rw [pushBeat_crc_idle d (quietStream s) hp]
        cases parse : s.ctrlParse <;> simp [parse, hp, Config.crcPreset]
      · rw [pushBeat_crc_busy d (quietStream s) hp]
        cases hq : s.phase <;> simp [crcAfterByte, hq, Config.crcPreset]
        case len => by_cases hc : s.cnt = 3#32 <;> simp [hc]
    · rw [endBeat_crc]
      by_cases raw : s.phase = .idle ∧ s.ctrlParse = false <;> simp [raw, Config.crcPreset]
  · obtain ⟨x, rfl | ⟨v, -, -, rfl⟩ | ⟨v, hi, clr, rfl⟩⟩ := exec_host_cases host he
    · exact .inl rfl
    · exact .inl rfl
    · exact .inr (.inl ⟨rfl, .inr (.inl ⟨v, hi, clr⟩)⟩)

end Sys2Proof.Proofs
end

section
/-! PROOF. The register view: the bits of CTRL and STATUS, the words after reset, and that the words show the whole
state (R34, R36, R38, R40). -/

namespace Sys2Proof.Proofs

open Sys2Proof.Machine

/-- Settles O2. -/
theorem resetStateAndRegisterView : Obligations.ResetStateAndRegisterView := by
  have words : ∀ a : RegAddr, regRead a State.reset = if a = 2#4 then 0x00370000#32 else 0#32 := by decide
  exact ⟨rfl, rfl, rfl, rfl, rfl, rfl, rfl, rfl, rfl, rfl, rfl, rfl, words⟩

/-- A bit as a word: the bit at weight 0, zeros above (R9). -/
@[simp] theorem zextBit_getElem (b : Bool) {n : Nat} (hn : n < 32) : (zextBit b)[n] = (decide (n = 0) && b) := by
  cases n <;> simp [zextBit]

theorem ctrlWord_getLsbD_zero (s : State) : (ctrlWord s).getLsbD 0 = s.ctrlParse := by simp [ctrlWord]

theorem ctrlWord_getLsbD_one (s : State) : (ctrlWord s).getLsbD 1 = s.ctrlHdr := by simp [ctrlWord]

/-- BUSY, DONE and MBAD of STATUS (R36). -/
theorem statusWord_flags (s : State) :
    (statusWord s).getLsbD 0 = decide (s.phase ≠ .idle) ∧ (statusWord s).getLsbD 1 = s.done ∧
    (statusWord s).getLsbD 2 = s.mbad := by
  simp [statusWord, busy, bne, beq_eq_decide]

theorem statusWord_err (s : State) : (statusWord s).extractLsb' 4 3 = s.err := by
  ext i hi
  interval_cases i <;> simp [statusWord]

theorem statusWord_phase (s : State) : (statusWord s).extractLsb' 8 3 = phaseCode s.phase := by
  ext i hi
  interval_cases i <;> simp [statusWord]

theorem statusWord_typeFlags (s : State) :
    (statusWord s).getLsbD 16 = critical s.typ ∧ (statusWord s).getLsbD 17 = isPublic s.typ ∧
    (statusWord s).getLsbD 18 = rsvok s.typ ∧ (statusWord s).getLsbD 19 = safe s.typ ∧
    (statusWord s).getLsbD 20 = tascii s.typ ∧ (statusWord s).getLsbD 21 = tvalid s.typ := by
  simp [statusWord]

theorem statusWord_reserved (s : State) :
    (statusWord s).getLsbD 3 = false ∧ (statusWord s).getLsbD 7 = false ∧
    (statusWord s).extractLsb' 11 5 = 0#5 ∧ (statusWord s).extractLsb' 22 10 = 0#10 := by
  refine ⟨by simp [statusWord], by simp [statusWord], ?_, ?_⟩
  · ext i hi
    interval_cases i <;> simp [statusWord]
  · ext i hi
    interval_cases i <;> simp [statusWord]

/-- Settles O39. -/
theorem statusLayout : Obligations.StatusLayout := by
  refine ⟨fun s => ⟨statusWord s, rfl, ?_⟩, rfl, fun _ _ => rfl⟩
  obtain ⟨busy, done, mbad⟩ := statusWord_flags s
  obtain ⟨crit, pub, rsv, copy, ascii, valid⟩ := statusWord_typeFlags s
  obtain ⟨bit3, bit7, bits11, bits22⟩ := statusWord_reserved s
  exact ⟨busy, done, mbad, bit3, statusWord_err s, bit7, statusWord_phase s, bits11, crit, pub, rsv, copy, ascii, valid,
    bits22⟩

/-! ### The words show the whole state -/

theorem ctrl_eq_of_ctrlWord_eq {s t : State} (h : ctrlWord s = ctrlWord t) :
    s.ctrlParse = t.ctrlParse ∧ s.ctrlHdr = t.ctrlHdr := by
  constructor
  · rw [← ctrlWord_getLsbD_zero s, h, ctrlWord_getLsbD_zero]
  · rw [← ctrlWord_getLsbD_one s, h, ctrlWord_getLsbD_one]

theorem status_eq_of_statusWord_eq {s t : State} (h : statusWord s = statusWord t) :
    s.phase = t.phase ∧ s.err = t.err ∧ s.done = t.done ∧ s.mbad = t.mbad := by
  obtain ⟨-, sdone, smbad⟩ := statusWord_flags s
  obtain ⟨-, tdone, tmbad⟩ := statusWord_flags t
  refine ⟨phaseCode_injective ?_, ?_, ?_, ?_⟩
  · rw [← statusWord_phase s, h, statusWord_phase]
  · rw [← statusWord_err s, h, statusWord_err]
  · rw [← sdone, h, tdone]
  · rw [← smbad, h, tmbad]

/-- The shown checksum determines the working register (R37, R38). -/
theorem crc_eq_of_calcOf_eq {s t : State} (h : calcOf s = calcOf t) : s.crc = t.crc := by
  rw [← crcShown_crcShown s.crc, ← crcShown_crcShown t.crc]
  exact congrArg crcShown h

/-- Settles O40. Words 3 to 8 show one element each; CTRL and STATUS show theirs in fields that determine them. -/
theorem everyStateBitIsReadable : Obligations.EveryStateBitIsReadable := by
  intro s t same
  obtain ⟨parse, hdr⟩ := ctrl_eq_of_ctrlWord_eq (same 0#4 (by decide) (by decide))
  obtain ⟨phase, err, done, mbad⟩ := status_eq_of_statusWord_eq (same 2#4 (by decide) (by decide))
  have len : s.len = t.len := same 3#4 (by decide) (by decide)
  have typ : s.typ = t.typ := same 4#4 (by decide) (by decide)
  have crcRx : s.crcRx = t.crcRx := same 5#4 (by decide) (by decide)
  have crc : s.crc = t.crc := crc_eq_of_calcOf_eq (same 6#4 (by decide) (by decide))
  have nfr : s.nfr = t.nfr := same 7#4 (by decide) (by decide)
  have cnt : s.cnt = t.cnt := same 8#4 (by decide) (by decide)
  simp only [elements, parse, hdr, phase, cnt, len, typ, crcRx, crc, nfr, err, done, mbad]

end Sys2Proof.Proofs
end

section
/-! PROOF. The order of the two events of a step (R59), and the host writes that have an effect (R56). -/

namespace Sys2Proof.Proofs

open Sys2Proof.Machine

/-- Settles O6. A step without reset is `andThen` of the two events, whose three cases are those of the statement. -/
theorem hostEventAppliesBeforeStreamEvent : Obligations.HostEventAppliesBeforeStreamEvent := by
  intro s w h rest
  rw [step_of_inputs rfl]
  cases exec (decodeHost h) { s with inputs := rest } <;> rfl

/-- Settles O35. Of what a host operation can do, a step that drives `h_rdata` alone leaves the twelve elements; the other
two are the writes named. -/
theorem onlyTwoHostWritesHaveAnEffect : Obligations.OnlyTwoHostWritesHaveAnEffect := by
  intro i s t host he changed
  obtain ⟨x, rfl | ⟨v, hi, hp, -⟩ | ⟨v, hi, clr, -⟩⟩ := exec_host_cases host he
  · exact absurd rfl changed
  · exact .inl ⟨hp, v, hi⟩
  · exact .inr ⟨v, hi, clr⟩

end Sys2Proof.Proofs
end

section
/-! PROOF. The port words in terms of their signals (R71, R72): what the decoder reads from each signal, the words as
numbers, and the canonical words of the encoder. -/

namespace Sys2Proof.Proofs

open Sys2Proof.Machine

/-! ### The signals of a word -/

section Signals
variable (sValid sEnd hSel hWe : Bool) (d : Byte) (a : RegAddr) (v : Word)

/-- The bits of a stream word, signal by signal (R71). -/
theorem streamSignals_getLsbD (i : Nat) :
    (streamSignals sValid sEnd d).getLsbD i =
      if i < 8 then d.getLsbD i else if i = 8 then sEnd else if i = 9 then sValid else false := by
  refine (BitVec.getLsbD_append ..).trans ?_
  simp only [BitVec.getLsbD_append, BitVec.getLsbD_ofBool, ← Bool.if_false_right]
  grind

/-- The bits of a host word, signal by signal (R72). -/
theorem hostSignals_getLsbD (i : Nat) :
    (hostSignals hSel hWe a v).getLsbD i =
      if i < 32 then v.getLsbD i else if i < 36 then a.getLsbD (i - 32)
      else if i = 36 then hWe else if i = 37 then hSel else false := by
  refine (BitVec.getLsbD_append ..).trans ?_
  simp only [BitVec.getLsbD_append, BitVec.getLsbD_ofBool, ← Bool.if_false_right]
  grind

theorem hostSignals_addr : (hostSignals hSel hWe a v).extractLsb' 32 4 = a := by
  refine BitVec.eq_of_getLsbD_eq fun i hi => ?_
  simp [hostSignals_getLsbD, hi, show 32 + i < 36 by omega]

/-- Every stream word is its signals (R71). -/
theorem exists_streamSignals (w : StreamWord) : ∃ sValid sEnd d, w = streamSignals sValid sEnd d := by
  refine ⟨w.getLsbD 9, w.getLsbD 8, w.extractLsb' 0 8, BitVec.eq_of_getLsbD_eq fun i hi => ?_⟩
  rw [streamSignals_getLsbD, BitVec.getLsbD_extractLsb']
  grind

/-- Every host word is its signals (R72). -/
theorem exists_hostSignals (w : HostWord) : ∃ hSel hWe a v, w = hostSignals hSel hWe a v := by
  refine ⟨w.getLsbD 37, w.getLsbD 36, w.extractLsb' 32 4, w.extractLsb' 0 32,
    BitVec.eq_of_getLsbD_eq fun i hi => ?_⟩
  rw [hostSignals_getLsbD, BitVec.getLsbD_extractLsb', BitVec.getLsbD_extractLsb']
  grind

/-! ### What the decoder reads -/

theorem decodeStream_streamSignals :
    decodeStream (streamSignals sValid sEnd d) =
      if sValid then if sEnd then .endStream else .push d else .sNop := by
  have data : (streamSignals sValid sEnd d).extractLsb' 0 8 = d := BitVec.extractLsb'_append_eq_right
  simp only [decodeStream, streamSignals_getLsbD, data]
  rfl

theorem decodeHost_hostSignals :
    decodeHost (hostSignals hSel hWe a v) =
      if hSel then if hWe then decodeWrite a v else decodeRead a else .hNop := by
  have wdata : (hostSignals hSel hWe a v).extractLsb' 0 32 = v := BitVec.extractLsb'_append_eq_right
  simp only [decodeHost, hostSignals_getLsbD, hostSignals_addr, wdata]
  rfl

/-! ### The words as numbers -/

/-- Joined words as a number: the left one counts in units of the right one's range. -/
theorem toNat_append_eq_add {m n : Nat} (x : BitVec m) (y : BitVec n) :
    (x ++ y).toNat = x.toNat * 2 ^ n + y.toNat := by
  rw [BitVec.toNat_append, ← Nat.shiftLeft_add_eq_or_of_lt y.isLt, Nat.shiftLeft_eq]

theorem streamSignals_toNat :
    (streamSignals sValid sEnd d).toNat = sValid.toNat * 2 ^ 9 + sEnd.toNat * 2 ^ 8 + d.toNat := by
  simp only [streamSignals, toNat_append_eq_add, BitVec.toNat_ofBool]
  omega

theorem hostSignals_toNat :
    (hostSignals hSel hWe a v).toNat =
      hSel.toNat * 2 ^ 37 + hWe.toNat * 2 ^ 36 + a.toNat * 2 ^ 32 + v.toNat := by
  simp only [hostSignals, toNat_append_eq_add, BitVec.toNat_ofBool]
  omega

end Signals

/-! ### The canonical words -/

theorem encode_decodeRead (a : RegAddr) : encode (decodeRead a) = .host (hostSignals true false a 0#32) := by
  obtain ⟨n, hn⟩ := a
  interval_cases n <;> rfl

theorem encode_decodeWrite (a : RegAddr) (v : Word) :
    encode (decodeWrite a v) = .host (hostSignals true true a v) := by
  obtain ⟨n, hn⟩ := a
  interval_cases n <;> rfl

theorem encode_push (d : Byte) : encode (.push d) = .stream (streamSignals true false d) := rfl

/-- Settles O14: the number of a canonical word is the sum of its signals, each at its own weight. -/
theorem canonicalWordsAreAsTabled : Obligations.CanonicalWordsAreAsTabled := by
  intro d a v
  rw [encode_push, encode_decodeRead, encode_decodeWrite]
  simp [PortWord.value, streamSignals_toNat, hostSignals_toNat]

/-- Settles O16: one evaluation of the decoder per word. -/
theorem sampleWordsDecodeAsTheSpecSays : Obligations.SampleWordsDecodeAsTheSpecSays :=
  ⟨rfl, rfl, rfl, rfl, rfl, rfl, rfl, rfl, rfl, rfl⟩

/-! ### The encoder's words decode -/

/-- A host operation is no access, the read of an address, or the write of one (R72). -/
theorem host_forms {i : Instr} (hi : i.port = .host) :
    i = .hNop ∨ (∃ a, i = decodeRead a) ∨ ∃ a v, i = decodeWrite a v := by
  obtain ⟨h, -⟩ | ⟨a, h, -⟩ | ⟨a, v, h, -⟩ := exec_host hi State.reset
  · exact .inl h
  · exact .inr (.inl ⟨a, h⟩)
  · exact .inr (.inr ⟨a, v, h⟩)

/-- The port decoder reads a canonical word as its operation (R71, R72, R73). -/
theorem decodePort_encode (i : Instr) : decodePort (encode i) = .ok i := by
  obtain rfl | stream | host := port_cases i
  · rfl
  · obtain rfl | ⟨d, rfl⟩ | rfl := stream_cases stream
    · rfl
    · rw [encode_push, decodePort, decodeStream_streamSignals]
      rfl
    · rfl
  · obtain rfl | ⟨a, rfl⟩ | ⟨a, v, rfl⟩ := host_forms host
    · rfl
    · rw [encode_decodeRead, decodePort, decodeHost_hostSignals]
      rfl
    · rw [encode_decodeWrite, decodePort, decodeHost_hostSignals]
      rfl

end Sys2Proof.Proofs
end

section
/-! PROOF. The port words as raw bytes (log entry 5), and the step that is presented a table word (log entry 4). -/

namespace Sys2Proof.Proofs

open Sys2Proof.Machine

/-! ### Bytes -/

@[simp] theorem bytesLE_length (k n : Nat) : (bytesLE k n).length = k := by
  induction k generalizing n with
  | zero => rfl
  | succ k ih => rw [bytesLE, List.length_cons, ih]

/-- A number that fits in `k` bytes is the number of its bytes. -/
theorem natLE_bytesLE {k n : Nat} (h : n < 256 ^ k) : natLE (bytesLE k n) = n := by
  induction k generalizing n with
  | zero =>
    have : n = 0 := by simpa using h
    rw [this]
    rfl
  | succ k ih =>
    have fits : n / 256 < 256 ^ k := Nat.div_lt_of_lt_mul (by rwa [pow_succ, mul_comm] at h)
    rw [bytesLE, natLE, ih fits, BitVec.toNat_ofNat]
    exact Nat.mod_add_div n 256

/-- The bytes of a port word are read back as the port word. -/
theorem portWordOfBytes_bytes (p : PortWord) : portWordOfBytes p.bytes = .ok p := by
  cases p with
  | pin w =>
    have h : natLE (bytesLE 1 w.toNat) = w.toNat := natLE_bytesLE (by omega)
    simp [portWordOfBytes, PortWord.bytes, h, w.isLt]
  | stream w =>
    have h : natLE (bytesLE 2 w.toNat) = w.toNat := natLE_bytesLE (by omega)
    simp [portWordOfBytes, PortWord.bytes, h, w.isLt]
  | host w =>
    have h : natLE (bytesLE 5 w.toNat) = w.toNat := natLE_bytesLE (by omega)
    simp [portWordOfBytes, PortWord.bytes, h, w.isLt]

theorem decodeBytes_bytes (p : PortWord) : decodeBytes p.bytes = decodePort p := by
  rw [decodeBytes, portWordOfBytes_bytes]

/-- The table's bytes of a port word's number, at the word's own number of whole bytes, are the word's bytes. -/
theorem tableBytes_value (p : PortWord) : tableBytes (8 * p.bytes.length) p.value = p.bytes := by
  cases p <;> simp [tableBytes, PortWord.bytes, PortWord.value]

/-- Settles O13. The port decoder reads the encoder's word; raw bytes and table words are the same port word read back. -/
theorem decodeInvertsEncode : Obligations.DecodeInvertsEncode := by
  intro i
  have bytes : decodeBytes (encode i).bytes = .ok i := by rw [decodeBytes_bytes, decodePort_encode]
  refine ⟨decodePort_encode i, bytes, ?_⟩
  rw [decodeTableWord, tableBytes_value, bytes]

/-! ### The step that is presented a table word -/

/-- A table word that the decoder reads as an operation presents a port word of that operation, alone. -/
theorem withFetchWord_of_decode {nbits w : Nat} {i : Instr} (h : decodeTableWord nbits w = some i) (s : State) :
    ∃ p, decodePort p = .ok i ∧ s.withFetchWord nbits w = presentInput p.alone s := by
  unfold decodeTableWord decodeBytes at h
  unfold State.withFetchWord
  cases hp : portWordOfBytes (tableBytes nbits w) with
  | error e => simp [hp] at h
  | ok p =>
    refine ⟨p, ?_, rfl⟩
    simp only [hp] at h
    cases hd : decodePort p <;> simp_all

/-- A stream operation blanks the step's events itself, so it does not see earlier ones (R70). -/
theorem exec_stream_quietStream {i : Instr} (hi : i.port = .stream) (s : State) :
    exec i (quietStream s) = exec i s := by
  obtain rfl | ⟨d, rfl⟩ | rfl := stream_cases hi <;> rfl

/-- A host operation leaves the step's events alone (log entry 10). -/
theorem exec_host_events {i : Instr} (hi : i.port = .host) {s t : State} (he : exec i s = .next t) :
    t.events = s.events := by
  obtain ⟨x, rfl | ⟨v, -, -, rfl⟩ | ⟨v, -, -, rfl⟩⟩ := exec_host_cases hi he
  · rfl
  · rfl
  · rfl

/-- A host operation with no beat beside it is the host operation with both output sides idle before it (R59, R130). -/
theorem exec_host_then_sNop {i : Instr} (hi : i.port = .host) (s : State) :
    andThen (exec i s) (exec .sNop) = exec i (quietPorts s) := by
  obtain ⟨y, t, host⟩ := exec_host_of_elements hi s
  have noEvent : t.events = [] := exec_host_events hi (host (elements s) rfl)
  rw [host s rfl, host (quietPorts s) rfl, andThen_next]
  simp [exec, execSNop, quietStream, quietPorts, reframe, noEvent]

/-- The step that is presented one port word alone runs the operation of that word (R59, R73). -/
theorem step_presentInput_alone {p : PortWord} {i : Instr} (h : decodePort p = .ok i) (s : State) :
    step (presentInput p.alone s) = exec i (quietPorts s) := by
  cases p with
  | pin w =>
    obtain rfl | rfl := BitVec.eq_zero_or_eq_one w
    · cases h
    · cases h
      rfl
  | stream w =>
    cases h
    rw [step_stream_alone rfl, ← exec_stream_quietStream (decodeStream_port w)]
    rfl
  | host w =>
    cases h
    rw [← exec_host_then_sNop (decodeHost_port w) s]
    exact step_of_inputs (w := 0#10) (h := w) (rest := s.inputs) rfl

/-- Settles O5. -/
theorem stepRunsTheDecodedInstruction : Obligations.StepRunsTheDecodedInstruction := by
  intro s nbits w i h
  obtain ⟨p, decoded, presented⟩ := withFetchWord_of_decode h s
  rw [presented]
  exact step_presentInput_alone decoded s

end Sys2Proof.Proofs
end

section
/-! PROOF. The operation table (R71, R72, R73): a port word lies in the row of its decoded operation and in no other. -/

namespace Sys2Proof.Proofs

open Sys2Proof.Machine

/-! ### Words under a mask -/

theorem bit_eq_of_toNat_eq {b c : Bool} (h : b.toNat = c.toNat) : b = c := by
  revert b c; decide

section Masks
variable {sValid sEnd hSel hWe m n x y : Bool} {d : Byte} {a b c : RegAddr} {v : Word}

/-- Words with the same number have the same signals (R71). -/
theorem streamSignals_toNat_inj {d' : Byte} :
    (streamSignals sValid sEnd d).toNat = (streamSignals x y d').toNat ↔ sValid = x ∧ sEnd = y ∧ d = d' := by
  constructor
  · intro same
    rw [streamSignals_toNat, streamSignals_toNat] at same
    have := sValid.toNat_le
    have := sEnd.toNat_le
    have := x.toNat_le
    have := y.toNat_le
    exact ⟨bit_eq_of_toNat_eq (by omega), bit_eq_of_toNat_eq (by omega), BitVec.eq_of_toNat_eq (by omega)⟩
  · rintro ⟨rfl, rfl, rfl⟩
    rfl

/-- A mask acts signal by signal. -/
theorem streamSignals_and :
    (streamSignals sValid sEnd d).toNat &&& (streamSignals m n 0#8).toNat =
      (streamSignals (sValid && m) (sEnd && n) 0#8).toNat := by
  rw [← BitVec.toNat_and]
  congr 1
  refine BitVec.eq_of_getLsbD_eq fun i hi => ?_
  simp only [BitVec.getLsbD_and, streamSignals_getLsbD]
  grind

/-- Words with the same number have the same signals (R72). -/
theorem hostSignals_toNat_inj {v' : Word} :
    (hostSignals hSel hWe a v).toNat = (hostSignals x y c v').toNat ↔ hSel = x ∧ hWe = y ∧ a = c ∧ v = v' := by
  constructor
  · intro same
    rw [hostSignals_toNat, hostSignals_toNat] at same
    have := hSel.toNat_le
    have := hWe.toNat_le
    have := x.toNat_le
    have := y.toNat_le
    exact ⟨bit_eq_of_toNat_eq (by omega), bit_eq_of_toNat_eq (by omega), BitVec.eq_of_toNat_eq (by omega),
      BitVec.eq_of_toNat_eq (by omega)⟩
  · rintro ⟨rfl, rfl, rfl, rfl⟩
    rfl

/-- A mask acts signal by signal. -/
theorem hostSignals_and :
    (hostSignals hSel hWe a v).toNat &&& (hostSignals m n b 0#32).toNat =
      (hostSignals (hSel && m) (hWe && n) (a &&& b) 0#32).toNat := by
  rw [← BitVec.toNat_and]
  congr 1
  refine BitVec.eq_of_getLsbD_eq fun i hi => ?_
  simp only [BitVec.getLsbD_and, hostSignals_getLsbD]
  grind

/-! ### Rows -/

/-- A row of the stream port: the signals it looks at (`m`, `n`) and what it asks them to be (`x`, `y`). -/
def streamRow (m n x y : Bool) : OpRow := ⟨.stream, (streamSignals x y 0#8).toNat, (streamSignals m n 0#8).toNat⟩

/-- A row of the host port: the signals it looks at (`m`, `n`, `b`) and what it asks them to be (`x`, `y`, `c`). -/
def hostRow (m n : Bool) (b : RegAddr) (x y : Bool) (c : RegAddr) : OpRow :=
  ⟨.host, (hostSignals x y c 0#32).toNat, (hostSignals m n b 0#32).toNat⟩

theorem holds_streamRow :
    (streamRow m n x y).holds (.stream (streamSignals sValid sEnd d)) = true ↔
      (sValid && m) = x ∧ (sEnd && n) = y := by
  simp [streamRow, OpRow.holds, PortWord.port, PortWord.value, streamSignals_and, streamSignals_toNat_inj]

theorem holds_hostRow :
    (hostRow m n b x y c).holds (.host (hostSignals hSel hWe a v)) = true ↔
      (hSel && m) = x ∧ (hWe && n) = y ∧ a &&& b = c := by
  simp [hostRow, OpRow.holds, PortWord.port, PortWord.value, hostSignals_and, hostSignals_toNat_inj]

end Masks

/-- S.NOP looks at `s_valid` only, a beat also at `s_end` (R71). -/
theorem opRow_sNop : opRow .sNop = streamRow true false false false := by decide
theorem opRow_push (d : Byte) : opRow (.push d) = streamRow true true true false := by revert d; decide
theorem opRow_endStream : opRow .endStream = streamRow true true true true := by decide

/-- H.NOP looks at `h_sel` only, an access also at `h_we` and the address (R72). -/
theorem opRow_hNop : opRow .hNop = hostRow true false 0#4 false false 0#4 := by decide
theorem opRow_decodeRead (a : RegAddr) : opRow (decodeRead a) = hostRow true true 15#4 true false a := by
  revert a; decide
theorem opRow_decodeWrite (a : RegAddr) (v : Word) : opRow (decodeWrite a v) = hostRow true true 15#4 true true a := by
  have zeroData : ∀ a : RegAddr, opRow (decodeWrite a 0#32) = hostRow true true 15#4 true true a := by decide
  have noData : opRow (decodeWrite a v) = opRow (decodeWrite a 0#32) := by
    obtain ⟨n, hn⟩ := a
    interval_cases n <;> rfl
  exact noData.trans (zeroData a)

/-! ### Rows and decoding -/

/-- The row of the decoded operation holds the word. -/
theorem holds_of_decodePort {p : PortWord} {i : Instr} (h : decodePort p = .ok i) : (opRow i).holds p = true := by
  cases p with
  | pin w =>
    obtain rfl | rfl := BitVec.eq_zero_or_eq_one w <;> cases h
    rfl
  | stream w =>
    cases h
    obtain ⟨sValid, sEnd, d, rfl⟩ := exists_streamSignals w
    rw [decodeStream_streamSignals]
    cases sValid
    · exact opRow_sNop ▸ holds_streamRow.mpr (by simp)
    · cases sEnd
      · exact opRow_push d ▸ holds_streamRow.mpr (by simp)
      · exact opRow_endStream ▸ holds_streamRow.mpr (by simp)
  | host w =>
    cases h
    obtain ⟨hSel, hWe, a, v, rfl⟩ := exists_hostSignals w
    rw [decodeHost_hostSignals]
    have address : a &&& 15#4 = a := BitVec.and_allOnes
    cases hSel
    · exact opRow_hNop ▸ holds_hostRow.mpr (by simp)
    · cases hWe
      · exact opRow_decodeRead a ▸ holds_hostRow.mpr (by simp [address])
      · exact opRow_decodeWrite a v ▸ holds_hostRow.mpr (by simp [address])

theorem opRow_port (i : Instr) : (opRow i).port = i.port := by
  cases i <;> rfl

theorem port_of_holds {i : Instr} {p : PortWord} (h : (opRow i).holds p = true) : p.port = i.port := by
  simp only [OpRow.holds, Bool.and_eq_true, decide_eq_true_eq, opRow_port] at h
  exact h.1

/-- A stream row that holds a word is the row of the operation the word decodes to. -/
theorem opRow_decodeStream_of_holds {j : Instr} (hj : j.port = .stream) {w : StreamWord}
    (h : (opRow j).holds (.stream w) = true) : opRow (decodeStream w) = opRow j := by
  obtain ⟨sValid, sEnd, d, rfl⟩ := exists_streamSignals w
  rw [decodeStream_streamSignals]
  obtain rfl | ⟨d', rfl⟩ | rfl := stream_cases hj
  · rw [opRow_sNop, holds_streamRow] at h
    simp_all
  · rw [opRow_push, holds_streamRow] at h
    simp_all [opRow_push]
  · rw [opRow_endStream, holds_streamRow] at h
    simp_all

/-- A host row that holds a word is the row of the operation the word decodes to. -/
theorem opRow_decodeHost_of_holds {j : Instr} (hj : j.port = .host) {w : HostWord}
    (h : (opRow j).holds (.host w) = true) : opRow (decodeHost w) = opRow j := by
  obtain ⟨hSel, hWe, a, v, rfl⟩ := exists_hostSignals w
  rw [decodeHost_hostSignals]
  have address : a &&& 15#4 = a := BitVec.and_allOnes
  obtain rfl | ⟨b, rfl⟩ | ⟨b, v', rfl⟩ := host_forms hj
  · rw [opRow_hNop, holds_hostRow] at h
    simp_all
  · rw [opRow_decodeRead, holds_hostRow] at h
    simp_all
  · rw [opRow_decodeWrite, holds_hostRow] at h
    simp_all [opRow_decodeWrite]

/-- A row of the table that holds a word is the row of the operation the word decodes to. -/
theorem opRow_eq_of_holds {p : PortWord} {i j : Instr} (hd : decodePort p = .ok i) (h : (opRow j).holds p = true) :
    opRow i = opRow j := by
  have port := port_of_holds h
  cases p with
  | pin w =>
    obtain rfl | rfl := BitVec.eq_zero_or_eq_one w <;> cases hd
    obtain rfl | stream | host := port_cases j
    · rfl
    · exact absurd (port.trans stream) (by decide)
    · exact absurd (port.trans host) (by decide)
  | stream w =>
    cases hd
    exact opRow_decodeStream_of_holds port.symm h
  | host w =>
    cases hd
    exact opRow_decodeHost_of_holds port.symm h

/-- The low reset pin is the only port word that names no operation (R73). -/
theorem exists_decodePort {p : PortWord} (hp : p ≠ .pin 0#1) : ∃ i, decodePort p = .ok i := by
  cases p with
  | pin w =>
    obtain rfl | rfl := BitVec.eq_zero_or_eq_one w
    · exact absurd rfl hp
    · exact ⟨.rst, rfl⟩
  | stream w => exact ⟨decodeStream w, rfl⟩
  | host w => exact ⟨decodeHost w, rfl⟩

/-- Settles O15. A row looks at signals the decoder branches on, and asks them to be what the decoder asks of them. -/
theorem everyPortWordIsInExactlyOneRow : Obligations.EveryPortWordIsInExactlyOneRow := by
  intro p hp
  obtain ⟨i, hd⟩ := exists_decodePort hp
  refine ⟨i, hd, holds_of_decodePort hd, fun r hr h => ?_⟩
  obtain ⟨j, -, rfl⟩ := List.mem_map.mp hr
  exact (opRow_eq_of_holds hd h).symm

end Sys2Proof.Proofs
end

section
/-! PROOF. Steps by their signals: idle ports, ignored signals and what a step drives on `h_rdata` (R70, R82; log entry 2). -/

namespace Sys2Proof.Proofs

open Sys2Proof.Machine

/-- A step without a beat and without an access leaves the twelve elements and drives both output sides idle (R130, R170). -/
theorem step_of_noEvent {w : StreamWord} {h : HostWord} (hw : decodeStream w = .sNop) (hh : decodeHost h = .hNop)
    (s : State) (rest : List StepInput) :
    step { s with inputs := ⟨false, w, h⟩ :: rest } =
      .next { s with hRdata := 0#32, events := [], inputs := rest } := by
  rw [step_of_inputs rfl, hw, hh]
  rfl

/-- Settles O7: idle ports are presented, and they carry no event. -/
theorem noRecordedInputIsAnIdleStep : Obligations.NoRecordedInputIsAnIdleStep := by
  intro s
  have idle : step { s with inputs := [] } = step { s with inputs := [idleInput] } := rfl
  exact ⟨idle.trans (step_of_noEvent rfl rfl s []), idle⟩

/-- Settles O10: the decoder drops the ignored signals. -/
theorem ignoredSignalsDoNotMatter : Obligations.IgnoredSignalsDoNotMatter := by
  intro s e we d d' a v v' h w rest
  have noBeat : decodeStream (streamSignals false e d) = .sNop := decodeStream_streamSignals ..
  have noAccess : decodeHost (hostSignals false we a v) = .hNop := decodeHost_hostSignals ..
  have ended : ∀ d, decodeStream (streamSignals true true d) = .endStream := decodeStream_streamSignals true true
  have read : ∀ v, decodeHost (hostSignals true false a v) = decodeRead a := decodeHost_hostSignals true false a
  refine ⟨step_of_noEvent noBeat noAccess s rest, ?_, ?_⟩
  · rw [step_of_inputs rfl, step_of_inputs rfl, ended, ended]
  · rw [step_of_inputs rfl, step_of_inputs rfl, read, read]

theorem exec_decodeRead (a : RegAddr) (s : State) : exec (decodeRead a) s = .next (readAccess a s) := by
  obtain ⟨n, hn⟩ := a
  interval_cases n <;> rfl

theorem exec_decodeWrite (a : RegAddr) (v : Word) (s : State) :
    exec (decodeWrite a v) s = .next (writeAccess a v s) := by
  obtain ⟨n, hn⟩ := a
  interval_cases n <;> rfl

/-- The beat of a step leaves `h_rdata` as the host event drove it (R59, R70). -/
theorem step_hRdata {s u : State} {h : HostWord} {rest : List StepInput}
    (hu : exec (decodeHost h) { s with inputs := rest } = .next u) (w : StreamWord) :
    ∃ t, step { s with inputs := ⟨false, w, h⟩ :: rest } = .next t ∧ t.hRdata = u.hRdata := by
  obtain ⟨t, beat⟩ := exec_stream_of_elements (decodeStream_port w) u
  refine ⟨reframe u.hRdata [] u.inputs t, ?_, rfl⟩
  rw [step_of_inputs rfl, hu, andThen_next, beat u rfl]

/-- Settles O12: the host event drives `h_rdata`, by the kind of access the word decodes to. -/
theorem readDataOnlyInAReadStep : Obligations.ReadDataOnlyInAReadStep := by
  intro s w we a v rest
  have read : exec (decodeHost (hostSignals true false a v)) { s with inputs := rest } =
      .next (readAccess a { s with inputs := rest }) := by
    rw [decodeHost_hostSignals]
    exact exec_decodeRead a _
  have write : exec (decodeHost (hostSignals true true a v)) { s with inputs := rest } =
      .next (writeAccess a v { s with inputs := rest }) := by
    rw [decodeHost_hostSignals]
    exact exec_decodeWrite a v _
  have noAccess : exec (decodeHost (hostSignals false we a v)) { s with inputs := rest } =
      .next (driveRdata 0#32 { s with inputs := rest }) := by
    rw [decodeHost_hostSignals]
    rfl
  exact ⟨step_hRdata read w, step_hRdata write w, step_hRdata noAccess w⟩

end Sys2Proof.Proofs
end

section
/-! PROOF. The flags bus, the big-endian fields and the frames without a serialized form (R70, R76, R77, R86; U1). -/

namespace Sys2Proof.Proofs

open Sys2Proof.Machine

/-- The flags bus, bit by bit (R70). -/
theorem tflags_bits (t : Word) :
    (tflags t).getLsbD 0 = critical t ∧ (tflags t).getLsbD 1 = isPublic t ∧ (tflags t).getLsbD 2 = rsvok t ∧
    (tflags t).getLsbD 3 = safe t ∧ (tflags t).getLsbD 4 = tascii t ∧ (tflags t).getLsbD 5 = tvalid t := by
  unfold tflags
  generalize critical t = crit, isPublic t = pub, rsvok t = rsv, safe t = copy, tascii t = ascii, tvalid t = valid
  revert crit pub rsv copy ascii valid
  decide

/-- Settles O44: both show the six predicates of the type in the same order. -/
theorem flagsBusIsTheStatusField : Obligations.FlagsBusIsTheStatusField := by
  intro s
  obtain ⟨crit, pub, rsv, copy, ascii, valid⟩ := statusWord_typeFlags s
  obtain ⟨crit', pub', rsv', copy', ascii', valid'⟩ := tflags_bits s.typ
  have bus : (outputPins s).oTflags = tflags s.typ := rfl
  have status : regRead 2#4 s = statusWord s := rfl
  rw [bus, status]
  refine BitVec.eq_of_getLsbD_eq fun i hi => ?_
  rw [BitVec.getLsbD_extractLsb']
  interval_cases i <;> simp_all

/-- Settles O51. Four bytes are the `BE32` of the value they join to, and shifting in the `BE32` of a value leaves it. -/
theorem fieldAssemblyIsBigEndian : Obligations.FieldAssemblyIsBigEndian := by
  intro r n b0 b1 b2 b3
  refine ⟨?_, ?_, shiftIn_be32 r n⟩
  · have shifted := shiftIn_be32 r (beWord b0 b1 b2 b3)
    rw [be32_beWord] at shifted
    exact shifted
  · simp only [toNat_append_eq_add]
    omega

/-! ### Payloads that do not fit -/

theorem payloadFits_eq_false {p : List Byte} (h : 2 ^ 32 ≤ p.length) : payloadFits p = false := by
  simpa [payloadFits] using h

/-- A trace line with a payload that does not fit the length field has no expansion (R86, U1). -/
theorem expand_of_not_wellFormed {l : TraceLine} (h : l.wellFormed = false) : expand l = none := by
  simp [expand, h]

/-- Settles O58. -/
theorem oversizedPayloadHasNoFrame : Obligations.OversizedPayloadHasNoFrame := by
  intro f c text
  constructor
  · intro fits
    exact ⟨_, serializeWith_eq_some.mpr ⟨fits, rfl⟩, frameLayout_length ..⟩
  · intro long
    have noFit := payloadFits_eq_false long
    refine ⟨?_, expand_of_not_wellFormed ?_, expand_of_not_wellFormed ?_⟩
    · simp [serializeWith, Frame.wellFormed, noFit]
    · simp [TraceLine.wellFormed, noFit]
    · simp [TraceLine.wellFormed, noFit]

end Sys2Proof.Proofs
end

section
/-! PROOF. The CRC functions: linearity, the table form and the bit-reversed normal form (R100, R101), and the worked values
of R101 and R102. -/

namespace Sys2Proof.Proofs

open Sys2Proof.Machine

/-- Settles O48. -/
theorem crcWorkedValues : Obligations.CrcWorkedValues :=
  ⟨by decide, by decide, by decide, by decide, by decide, by decide, by decide, by decide +kernel⟩

/-! ### Linearity -/

/-- What the bit that leaves the register adds to it: the polynomial, if the bit is 1 (R101). -/
def feedback (b : Bool) : Word := if b then Config.crcPoly else 0#32

theorem feedback_xor (a b : Bool) : feedback (a ^^ b) = feedback a ^^^ feedback b := by
  revert a b
  decide

/-- A round is a shift and the feedback of the bit that leaves (R101). -/
theorem crcBit_eq (c : Word) : crcBit c = (c >>> 1) ^^^ feedback (c.getLsbD 0) := by
  rw [crcBit, feedback]
  split
  · rfl
  · exact BitVec.xor_zero.symm

theorem crcBit_xor (a b : Word) : crcBit (a ^^^ b) = crcBit a ^^^ crcBit b := by
  simp only [crcBit_eq, BitVec.ushiftRight_xor_distrib, BitVec.getLsbD_xor, feedback_xor]
  ac_rfl

theorem crcBits_xor (k : Nat) (a b : Word) : crcBits k (a ^^^ b) = crcBits k a ^^^ crcBits k b := by
  induction k generalizing a b with
  | zero => rfl
  | succ k ih => rw [crcBits, crcBit_xor, ih, crcBits, crcBits]

/-- The zero byte enters nothing into the register: its update is eight rounds (R101). -/
theorem crcUpd_zeroByte (c : Word) : crcUpd c 0#8 = crcBits 8 c := by simp [crcUpd]

/-- From the zero register, the update is eight rounds on the byte (R101). -/
theorem crcUpd_zeroRegister (d : Byte) : crcUpd 0#32 d = crcBits 8 (d.setWidth 32) := by simp [crcUpd]

/-- Settles O46. -/
theorem crcIsLinear : Obligations.CrcIsLinear := by
  intro a b d
  simp only [crcUpd_zeroByte]
  exact ⟨crcBits_xor 8 a b, rfl⟩

/-! ### The table form -/

/-- While only zeros leave the register, a round is a shift (R101). -/
theorem crcBits_of_low_zero (k : Nat) (c : Word) (h : ∀ i < k, c.getLsbD i = false) : crcBits k c = c >>> k := by
  induction k generalizing c with
  | zero => simp [crcBits]
  | succ k ih =>
    have round : crcBit c = c >>> 1 := by
      rw [crcBit_eq, h 0 k.succ_pos]
      exact BitVec.xor_zero
    have low : ∀ i < k, (c >>> 1).getLsbD i = false := fun i hi => by
      rw [BitVec.getLsbD_ushiftRight]
      exact h (1 + i) (by omega)
    rw [crcBits, round, ih _ low, ← BitVec.shiftRight_add, Nat.add_comm]

/-- A register is its upper three bytes and its low byte. -/
theorem upperBytes_xor_lowByte (c : Word) :
    ((c >>> 8) <<< 8) ^^^ (c.extractLsb' 0 8).setWidth 32 = c := by
  ext i hi
  by_cases low : i < 8
  · simp [low, BitVec.getLsbD_eq_getElem hi]
  · simp [low, show 8 + (i - 8) = i by omega, BitVec.getLsbD_eq_getElem hi]

/-- The eight rounds shift the upper three bytes down and feed nothing back from them. -/
theorem crcBits_upperBytes (c : Word) : crcBits 8 ((c >>> 8) <<< 8) = c >>> 8 := by
  rw [crcBits_of_low_zero 8 _ fun i hi => by simp [hi]]
  ext i hi
  by_cases top : 8 + i < 32
  · simp [top]
  · simp [top, BitVec.getLsbD_of_ge c (8 + i) (by omega)]

/-- A stream byte touches the low byte of the register only. -/
theorem xor_byte_ushiftRight (c : Word) (d : Byte) : (c ^^^ d.setWidth 32) >>> 8 = c >>> 8 := by
  rw [BitVec.ushiftRight_xor_distrib]
  ext i hi
  simp

/-- Settles O45: the upper three bytes are shifted down by eight rounds, the low byte is looked up, and the two parts join by
linearity. -/
theorem crcTableForm : Obligations.CrcTableForm := by
  intro c d
  generalize hx : c ^^^ d.setWidth 32 = x
  calc crcUpd c d
      _ = crcBits 8 (((x >>> 8) <<< 8) ^^^ (x.extractLsb' 0 8).setWidth 32) := by
        rw [upperBytes_xor_lowByte, ← hx, crcUpd]
      _ = (x >>> 8) ^^^ crcUpd 0#32 (x.extractLsb' 0 8) := by
        rw [crcBits_xor, crcBits_upperBytes, crcUpd_zeroRegister]
      _ = (c >>> 8) ^^^ crcUpd 0#32 (x.extractLsb' 0 8) := by
        rw [← hx, xor_byte_ushiftRight]

/-! ### The normal form -/

theorem reverse_xor (a b : Word) : (a ^^^ b).reverse = a.reverse ^^^ b.reverse := by
  ext i hi
  simp [BitVec.getElem_reverse, BitVec.getMsbD_xor]

theorem reverse_ushiftRight_one (c : Word) : (c >>> 1).reverse = c.reverse <<< 1 := by
  ext i hi
  rw [BitVec.getElem_reverse, BitVec.getElem_shiftLeft, BitVec.getElem_reverse, BitVec.getMsbD_ushiftRight]
  simp [hi]

/-- The polynomial of the normal form is the reversed polynomial (R100). -/
theorem reverse_feedback (b : Bool) : (feedback b).reverse = if b then 0x04C11DB7#32 else 0#32 := by
  revert b
  decide +kernel

/-- A round of the normal form is a shift and the reversed feedback (R100). -/
theorem normalBit_eq (c : Word) : normalBit c = (c <<< 1) ^^^ (feedback (c.getLsbD 31)).reverse := by
  rw [reverse_feedback, normalBit]
  split
  · rfl
  · exact BitVec.xor_zero.symm

/-- One reflected round is the bit reversal of one normal-form round (R100). -/
theorem crcBit_reverse (c : Word) : (crcBit c).reverse = normalBit c.reverse := by
  have leaving : c.reverse.getLsbD 31 = c.getLsbD 0 := BitVec.getLsbD_reverse
  rw [crcBit_eq, normalBit_eq, reverse_xor, reverse_ushiftRight_one, leaving]

/-- Settles O47, by induction on the rounds. -/
theorem crcReflectsTheNormalForm : Obligations.CrcReflectsTheNormalForm := by
  intro k
  induction k with
  | zero => exact fun _ => rfl
  | succ k ih =>
    intro c
    rw [crcBits, ih, crcBit_reverse, normalBits]

end Sys2Proof.Proofs
end

section
/-! PROOF. Raw streams: PUSH and END in RAW, and the checksum a whole stream shows (R103 to R106). -/

namespace Sys2Proof.Proofs

open Sys2Proof.Machine

/-! ### Beats in RAW -/

theorem exec_push (d : Byte) (s : State) : exec (.push d) s = .next (pushBeat d (quietStream s)) := rfl

theorem exec_endStream (s : State) : exec .endStream s = .next (endBeat (quietStream s)) := rfl

theorem pushBeat_raw (d : Byte) {s : State} (hp : s.phase = .raw) : pushBeat d s = feedCrc d s := by
  simp [pushBeat, pushArm, pushRaw, hp]

theorem endBeat_raw {s : State} (hp : s.phase = .raw) : endBeat s = endStreamNow s := by
  simp [endBeat, endRaw, hp]

/-- The end of a stream, field by field (R105, R140, R141). -/
theorem endStreamNow_eq (s : State) :
    endStreamNow s = { s with
      phase := .idle, cnt := 0#32, done := true, events := s.events ++ [.eos s.err s.nfr (crcShown s.crc)] } := rfl

/-- The checksum of no bytes: the final XOR cancels the preset (R102). -/
theorem crcShown_preset : crcShown Config.crcPreset = 0#32 := by decide

/-- `start_stream` with `ctrl_parse` 0 (R131). -/
theorem startStream_raw {s : State} (raw : s.ctrlParse = false) :
    startStream s = { s with
      done := false, err := 0#3, nfr := 0#32, mbad := false, cnt := 0#32
      phase := .raw, crc := Config.crcPreset } := by
  simp [startStream, startPhase, startCrc, raw]

/-- Settles O19. -/
theorem pushInRawUpdatesCrc : Obligations.PushInRawUpdatesCrc := by
  intro s d hp
  rw [exec_push, pushBeat_raw d (s := quietStream s) hp]
  rfl

/-- Settles O26. The only beat of a raw stream ends the stream that `start_stream` has just set up, whose shown checksum is
0. -/
theorem endInRawReportsTheCrc : Obligations.EndInRawReportsTheCrc := by
  constructor
  · intro s hp herr hnfr
    rw [exec_endStream, endBeat_raw (s := quietStream s) hp, endStreamNow_eq]
    simp only [quietStream, herr, hnfr]
    rfl
  · intro s hp raw
    have started : endBeat (quietStream s) = endBeat (startStream (quietStream s)) :=
      endBeat_pushAll_idle (s := quietStream s) hp []
    rw [exec_endStream, started, startStream_raw (s := quietStream s) raw, endBeat_raw rfl, endStreamNow_eq]
    simp only [crcShown_preset]
    rfl

/-! ### Whole raw streams -/

/-- Bytes in RAW enter `crc` one after the other, and emit nothing (R104). -/
theorem pushAll_raw (bs : List Byte) {s : State} (hp : s.phase = .raw) :
    pushAll bs s = { s with crc := crcFeed s.crc bs } := by
  induction bs generalizing s with
  | nil => rfl
  | cons d bs ih =>
    rw [pushAll_cons, pushBeat_raw d hp, ih (s := feedCrc d s) hp]
    rfl

/-- A raw stream under way: started from `s`, with the CRC of the bytes accepted so far (R131, R103). -/
def rawStream (bs : List Byte) (s : State) : State :=
  { startStream s with phase := .raw, crc := crcFeed Config.crcPreset bs }

/-- The register of a raw stream under way shows the CRC-32 of its bytes (R103, R106). -/
theorem calcOf_rawStream (bs : List Byte) (s : State) : calcOf (rawStream bs s) = crc32 bs := rfl

/-- CRC_CALC shows the checksum of the twelve elements (R37). -/
theorem regRead_crcCalc (t : State) : regRead 6#4 t = calcOf (elements t) := rfl

theorem pushAll_startStream_raw (bs : List Byte) {s : State} (raw : s.ctrlParse = false) :
    pushAll bs (startStream s) = rawStream bs s := by
  rw [rawStream, startStream_raw raw, pushAll_raw bs rfl]

/-- The first byte starts the stream (R131, R132). -/
theorem pushAll_idle_raw {bs : List Byte} {s : State} (hp : s.phase = .idle) (raw : s.ctrlParse = false)
    (hne : bs ≠ []) : pushAll bs s = rawStream bs s := by
  obtain ⟨d, bs, rfl⟩ := List.exists_cons_of_ne_nil hne
  have busy : (startStream s).phase ≠ .idle := by simp [startStream_raw raw]
  rw [← pushAll_startStream_raw _ raw, pushAll_cons, pushAll_cons, pushBeat, pushBeat,
    startIfIdle_idle hp, startIfIdle_busy busy]

/-- Settles O49: the fold of PUSH feeds the bytes to the preset register, and END shows it. -/
theorem rawStreamComputesTheCrc32 : Obligations.RawStreamComputesTheCrc32 := by
  constructor
  · intro s bs rest hp raw hne hs
    obtain ⟨t, run, elems, ins⟩ := runSteps_bytes hs
    rw [pushAll_idle_raw (s := elements s) hp raw hne] at run elems
    have shown : regRead 6#4 t = crc32 bs := by
      rw [regRead_crcCalc, elems]
      exact calcOf_rawStream bs (elements s)
    exact ⟨t, run, congrArg State.phase elems, ins, shown⟩
  · intro s bs rest hp raw hs
    obtain ⟨t, run, elems, ins⟩ := runSteps_stream hs
    rw [endBeat_pushAll_idle (s := elements s) hp, pushAll_startStream_raw bs (s := elements s) raw,
      endBeat_raw rfl] at run elems
    have shown : regRead 6#4 t = crc32 bs := by
      rw [regRead_crcCalc, elems]
      exact calcOf_rawStream bs (elements s)
    refine ⟨t, run, ?_, ins, shown⟩
    rw [elems, crc32, crcShown_xor]
    rfl

end Sys2Proof.Proofs
end

section
/-! PROOF. The type field's predicates as tests on its four bytes (R122 to R127). -/

namespace Sys2Proof.Proofs

open Sys2Proof.Machine

/-- A byte of a word is in 0x00..0x7F exactly when its top bit, a bit of the word, is clear. -/
theorem toNat_byte_le_iff (t : Word) (k : Nat) :
    (t.extractLsb' k 8).toNat ≤ 0x7F ↔ t.getLsbD (k + 7) = false := by
  have top : (t.extractLsb' k 8).msb = t.getLsbD (k + 7) := by
    simp [BitVec.msb_eq_getLsbD_last]
  rw [← top, BitVec.msb_eq_false_iff_two_mul_lt]
  omega

/-- The property bit of byte 0 (R122). -/
theorem critical_iff (t : Word) : critical t = true ↔ t.extractLsb' 24 8 &&& 0x20#8 = 0#8 := beq_iff_eq

/-- The property bit of byte 1 (R123). -/
theorem isPublic_iff (t : Word) : isPublic t = true ↔ t.extractLsb' 16 8 &&& 0x20#8 = 0#8 := beq_iff_eq

/-- The property bit of byte 2 (R124). -/
theorem rsvok_iff (t : Word) : rsvok t = true ↔ t.extractLsb' 8 8 &&& 0x20#8 = 0#8 := beq_iff_eq

/-- The property bit of byte 3, the one that is tested for being set (R125). -/
theorem safe_iff (t : Word) : safe t = true ↔ t.extractLsb' 0 8 &&& 0x20#8 ≠ 0#8 := bne_iff_ne

/-- The four top bits that the model reads are the ranges of the four bytes (R126). -/
theorem tascii_iff (t : Word) :
    tascii t = true ↔
      (t.extractLsb' 24 8).toNat ≤ 0x7F ∧ (t.extractLsb' 16 8).toNat ≤ 0x7F ∧
      (t.extractLsb' 8 8).toNat ≤ 0x7F ∧ (t.extractLsb' 0 8).toNat ≤ 0x7F := by
  simp only [toNat_byte_le_iff, tascii, Bool.and_eq_true, Bool.not_eq_true', and_assoc]

/-- The two conditions of the frame verdict (R127). -/
theorem tvalid_iff (t : Word) : tvalid t = true ↔ tascii t = true ∧ rsvok t = true := Bool.and_eq_true_iff

/-- Settles O50: each predicate by its own equivalence, and the document's types by evaluation. -/
theorem typePredicatesAreBitTests : Obligations.TypePredicatesAreBitTests :=
  ⟨fun t => ⟨critical_iff t, isPublic_iff t, rsvok_iff t, safe_iff t, tascii_iff t, tvalid_iff t⟩, by decide⟩

end Sys2Proof.Proofs
end

section
/-! PROOF. Frames, containers and streams as runs of the block: the preamble, one frame, a container, and the verdict on
every byte stream (R83, R133, R142 to R146). -/

namespace Sys2Proof.Proofs

open Sys2Proof.Machine

/-! ### The start of a stream -/

/-- A stream that has started does not start again (R132). -/
theorem startIfIdle_startStream (s : State) : startIfIdle (startStream s) = startStream s := by
  obtain ⟨-, hp⟩ | ⟨-, -, hp⟩ | ⟨-, -, hp⟩ := startPhase_cases s <;> exact startIfIdle_busy (by simp [hp])

/-- The first byte starts the stream, and goes where the started stream takes it (R131, R132). -/
theorem pushBeat_idle (d : Byte) {s : State} (hp : s.phase = .idle) : pushBeat d s = pushBeat d (startStream s) := by
  rw [pushBeat, pushBeat, startIfIdle_startStream, startIfIdle_idle hp]

/-- END as the only beat starts the stream that it ends (R131, R139). -/
theorem endBeat_idle {s : State} (hp : s.phase = .idle) : endBeat s = endBeat (startStream s) :=
  endBeat_pushAll_idle hp []

theorem pushAll_idle {bs : List Byte} {s : State} (hp : s.phase = .idle) (hne : bs ≠ []) :
    pushAll bs s = pushAll bs (startStream s) := by
  obtain ⟨d, bs, rfl⟩ := List.exists_cons_of_ne_nil hne
  rw [pushAll_cons, pushAll_cons, pushBeat_idle d hp]

/-! ### The preamble and one frame -/

/-- Settles O52. The first byte starts the stream in MAGIC, and the eight bytes decide there. -/
theorem preambleIsDecidedAtTheEighthByte : Obligations.PreambleIsDecidedAtTheEighthByte := by
  intro s bs rest hidle hparse hhdr hlen hin
  obtain ⟨t, run, elems, ins⟩ := runSteps_bytes hin
  have hne : bs ≠ [] := List.ne_nil_of_length_eq_add_one hlen
  have magic : (startStream (elements s)).phase = .magic := by simp [startPhase, elements, hparse, hhdr]
  have crc : (startStream (elements s)).crc = s.crc := by simp [startCrc, elements, hparse]
  rw [pushAll_idle (s := elements s) hidle hne, pushAll_preamble magic rfl rfl hlen] at run elems
  refine ⟨t, hlen ▸ run, ins, elems.trans ?_⟩
  by_cases hm : bs = Config.magic <;>
    simp [hm, preambleDecided, startStream, elements, startCrc, hparse, errorCode]

/-- Settles O53. -/
theorem serializedFrameRoundTrips : Obligations.SerializedFrameRoundTrips := by
  intro s f bytes rest hb herr ht hser hin
  obtain ⟨hlen, rfl⟩ := serializeWith_eq_some.mp hser
  obtain ⟨t, run, elems, ins⟩ := runSteps_bytes hin
  rw [pushAll_goodFrame (s := elements s) hb hlen ht] at run elems
  refine ⟨t, run.trans ?_, ins, elems.trans ?_⟩
  · simp [elements, frameEvents, herr]
  · rw [frameChecksum, crc32, crcShown_xor]
    rfl

/-- The code of a frame that is not good (R190, R196). -/
theorem errorCode_frameError (f : Frame) : errorCode (frameError f) = if tvalid f.typ then 4#3 else 3#3 := by
  cases ht : tvalid f.typ <;> simp [frameError, ht, errorCode]

/-- Settles O54. -/
theorem tamperedFrameFails : Obligations.TamperedFrameFails := by
  intro s f c bytes rest hb hbad hser hin
  obtain ⟨hlen, rfl⟩ := serializeWith_eq_some.mp hser
  obtain ⟨t, run, elems, ins⟩ := runSteps_bytes hin
  rw [pushAll_badFrame (s := elements s) hb hlen hbad] at run elems
  refine ⟨t, _, errorCode_frameError f, run, ins, elems.trans ?_⟩
  rw [frameChecksum, crc32, crcShown_xor]
  rfl

/-! ### Every byte stream -/

/-- Settles O56. The run is the fold of PUSH over the bytes and END, and what END reports there is the buffered parse. -/
theorem streamVerdictIsTheBufferedVerdict : Obligations.StreamVerdictIsTheBufferedVerdict := by
  intro s bs rest r hidle hparse hr hin
  obtain ⟨t, run, elems, ins⟩ := runSteps_stream hin
  rw [endBeat_pushAll_idle (s := elements s) hidle] at run elems
  have ends : EndsAs r (startStream (elements s)) (pushAll bs (startStream (elements s))) :=
    hr ▸ endsAs_parse (s := elements s) hparse bs
  have hnfr : (endBeat (pushAll bs (startStream (elements s)))).nfr = BitVec.ofNat 32 r.frames.length :=
    ends.nfr.trans (BitVec.zero_add _)
  obtain ⟨hphase, hdone, hcnt, hevents⟩ := endBeat_result (pushAll bs (startStream (elements s)))
  rw [hevents, eosOf, ends.err, hnfr] at run
  refine ⟨t, _, verdictCode r.error, _, _, ?_, rfl, run, (congrArg State.err elems).trans ends.err,
    (congrArg State.nfr elems).trans hnfr, (congrArg State.phase elems).trans hphase,
    (congrArg State.cnt elems).trans hcnt, (congrArg State.done elems).trans hdone, ins⟩
  cases r.error <;> rfl

/-! ### The parse of a serialized container -/

/-- The four bytes of a value are read back as the value (R76, R77). -/
theorem beWord_be32 (n : Word) :
    beWord (n.extractLsb' 24 8) (n.extractLsb' 16 8) (n.extractLsb' 8 8) (n.extractLsb' 0 8) = n := by
  obtain ⟨assembled, -, inverse⟩ := fieldAssemblyIsBigEndian 0#32 n (n.extractLsb' 24 8) (n.extractLsb' 16 8)
    (n.extractLsb' 8 8) (n.extractLsb' 0 8)
  exact assembled.symm.trans inverse

/-- A frame's layout at the front of a buffer is split off as that frame, with its checksum field (R74, R78). -/
theorem splitFrame_frameLayout {f : Frame} (hlen : f.payload.length < 2 ^ 32) (c : Word) (rest : List Byte) :
    splitFrame (frameLayout (BitVec.ofNat 32 f.payload.length) f c ++ rest) = some (f, c, rest) := by
  have n : (BitVec.ofNat 32 f.payload.length).toNat = f.payload.length := by
    rw [BitVec.toNat_ofNat, Nat.mod_eq_of_lt hlen]
  simp [frameLayout, be32, splitFrame, beWord_be32, n]

/-- Serialized frames with valid types are parsed as those frames (R87, R143, R144). -/
theorem parseFrames_serializeFrames (fs : List Frame) {k : Nat} {bytes : List Byte}
    (ht : ∀ f ∈ fs, tvalid f.typ = true) (hser : serializeFrames fs = some bytes) (hk : bytes.length ≤ k) :
    parseFrames k bytes = ⟨fs, none⟩ := by
  induction fs generalizing k bytes with
  | nil =>
    cases hser
    exact parseFrames_nil k
  | cons f fs ih =>
    simp only [serializeFrames] at hser
    split at hser
    · rename_i b bs hf hfs
      cases hser
      obtain ⟨hlen, rfl⟩ := serializeWith_eq_some.mp hf
      rw [List.length_append, frameLayout_length] at hk
      obtain ⟨k, rfl⟩ : ∃ j, k = j + 1 := ⟨k - 1, by omega⟩
      rw [parseFrames_good k (splitFrame_frameLayout hlen _ bs) (ht f List.mem_cons_self),
        ih (fun g hg => ht g (List.mem_cons_of_mem f hg)) hfs (by omega)]
    · cases hser

/-- A serialized container of frames with valid types is parsed as those frames (R87, R143). -/
theorem parseContainer_serializeContainer {fs : List Frame} {bytes : List Byte} (ht : ∀ f ∈ fs, tvalid f.typ = true)
    (hser : serializeContainer fs = some bytes) : parseContainer bytes = ⟨fs, none⟩ := by
  unfold serializeContainer at hser
  split at hser
  · rename_i bs hfs
    cases hser
    have frames : parseBuffer bs = ⟨fs, none⟩ := parseFrames_serializeFrames fs ht hfs (Nat.le_refl _)
    have long : ¬ (Config.magic ++ bs).length < 8 := by simp [Config.magic]
    have preamble : (Config.magic ++ bs).take 8 = Config.magic := rfl
    rw [parseContainer, if_neg long, if_neg (not_not_intro preamble)]
    exact frames
  · cases hser

/-- Settles O55. The buffered parse of the container is its frames, so the block's verdict is success with their number,
and its consumer commits them. -/
theorem serializedContainerRoundTrips : Obligations.SerializedContainerRoundTrips := by
  intro s fs bytes rest hidle hparse hhdr ht hser hin
  have parsed := parseContainer_serializeContainer ht hser
  obtain ⟨t, es, run, commits⟩ := consumerGetsAllFramesOrNothing s bytes rest hidle hparse hin
  obtain ⟨t', es', e, n, shown, he, hn, run', herr, hnfr, hphase, -, hdone, ins⟩ :=
    streamVerdictIsTheBufferedVerdict s bytes rest ⟨fs, none⟩ hidle hparse (by rw [if_pos hhdr, parsed]) hin
  rw [if_pos hhdr, parsed] at commits
  obtain rfl : t' = t := by
    rw [run] at run'
    cases run'
    rfl
  exact ⟨t', es, run, commits, ins, hphase, hdone, herr.trans he, hnfr.trans hn⟩

end Sys2Proof.Proofs
end

section
/-! PROOF. PUSH and END phase by phase, as single operations: the fields each leaves and the event it emits (R133 to R137,
R140). -/

namespace Sys2Proof.Proofs

open Sys2Proof.Machine

/-! ### PUSH -/

/-- Settles O20. Before the eighth byte the byte number is counted; the eighth byte decides. -/
theorem pushInMagicChecksThePreamble : Obligations.PushInMagicChecksThePreamble := by
  intro s d m bad hp hm hbad
  have noted : ((quietStream s).mbad || d != magicByte (quietStream s).cnt) = bad := by
    rw [quietStream_mbad, quietStream_cnt, magicByte_of_get hm, hbad]
  rw [exec_push, pushBeat_magic d (s := quietStream s) hp]
  by_cases hc : s.cnt = 7#32
  · rw [pushMagic_last d (s := quietStream s) hc, noted]
    cases bad <;> simp [preambleDecided, quietStream, hc, errorCode]
  · obtain ⟨s1, rfl, ⟨hc', -⟩ | ⟨hc', -⟩ | ⟨-, e⟩⟩ := pushMagic_cases d (quietStream s)
    · exact absurd hc' hc
    · exact absurd hc' hc
    · rw [e, noteMismatch, noted]
      simp [goTo, quietStream, hc, hp]

/-- Settles O21. -/
theorem pushInLenAssemblesTheLength : Obligations.PushInLenAssemblesTheLength := by
  intro s d hp
  rw [exec_push, pushBeat_len d (s := quietStream s) hp]
  obtain ⟨hc, e⟩ | ⟨hc, e⟩ := pushLen_cases d (quietStream s) <;> rw [quietStream_cnt] at hc <;> rw [e]
  · simp [presetCrc, goTo, shiftLen, shiftIn, quietStream, hc, Config.crcPreset]
  · simp [goTo, shiftLen, shiftIn, quietStream, hc, hp]

/-- Settles O22. -/
theorem pushInTypeAssemblesTheType : Obligations.PushInTypeAssemblesTheType := by
  intro s d hp
  rw [exec_push, pushBeat_typ d (s := quietStream s) hp]
  obtain ⟨s1, rfl, ⟨hc, hl, e⟩ | ⟨hc, hl, e⟩ | ⟨hc, e⟩⟩ := pushTyp_cases d (quietStream s) <;>
    rw [quietStream_cnt] at hc <;> rw [e]
  · rw [quietStream_len] at hl
    simp [emit, goTo, feedCrc, shiftTyp, shiftIn, quietStream, hc, hl]
  · rw [quietStream_len] at hl
    simp [emit, goTo, feedCrc, shiftTyp, shiftIn, quietStream, hc, hl]
  · simp [goTo, feedCrc, shiftTyp, shiftIn, quietStream, hc, hp]

/-- Settles O23. -/
theorem pushInPayloadForwardsTheByte : Obligations.PushInPayloadForwardsTheByte := by
  intro s d hp
  rw [exec_push, pushBeat_pay d (s := quietStream s) hp]
  obtain ⟨s1, rfl, ⟨hc, e⟩ | ⟨hc, e⟩⟩ := pushPay_cases d (quietStream s) <;> rw [quietStream_cnt] at hc <;> rw [e]
  · simp [goTo, emit, feedCrc, quietStream, hc]
  · simp [goTo, emit, feedCrc, quietStream, hc, hp]

section Verdict
variable {s : State}

theorem judgeFrame_of_invalid (ht : tvalid s.typ = false) : judgeFrame s = takeError .invalidType s := by
  simp [judgeFrame, ht]

theorem judgeFrame_of_mismatch (ht : tvalid s.typ = true) (hc : s.crcRx ≠ calcOf s) :
    judgeFrame s = takeError .checksumMismatch s := by
  simp [judgeFrame, ht, hc]

theorem judgeFrame_of_match (ht : tvalid s.typ = true) (hc : s.crcRx = calcOf s) :
    judgeFrame s = goTo .len 0#32 (countFrame s) := by
  simp [judgeFrame, ht, hc]

theorem pushCrcf_last (d : Byte) (hc : s.cnt = 3#32) :
    pushCrcf d s = emit (frmOf (judgeFrame (shiftCrcRx d s))) (judgeFrame (shiftCrcRx d s)) := by
  simp [pushCrcf, hc]

theorem pushCrcf_inner (d : Byte) (hc : s.cnt ≠ 3#32) :
    pushCrcf d s = goTo s.phase (s.cnt + 1#32) (shiftCrcRx d s) := by
  simp [pushCrcf, hc]

end Verdict

/-- Settles O24. -/
theorem pushInChecksumJudgesTheFrame : Obligations.PushInChecksumJudgesTheFrame := by
  rintro s d rx hp rfl
  rw [exec_push, pushBeat_crcf d (s := quietStream s) hp]
  refine ⟨fun hc => ?_, fun hc ht => ?_, fun hc ht mismatch => ?_, fun hc ht same => ?_⟩
  · rw [pushCrcf_inner (s := quietStream s) d hc]
    rfl
  · rw [pushCrcf_last (s := quietStream s) d hc, judgeFrame_of_invalid (s := shiftCrcRx d (quietStream s)) ht]
    rfl
  · rw [pushCrcf_last (s := quietStream s) d hc,
      judgeFrame_of_mismatch (s := shiftCrcRx d (quietStream s)) ht mismatch]
    rfl
  · rw [pushCrcf_last (s := quietStream s) d hc, judgeFrame_of_match (s := shiftCrcRx d (quietStream s)) ht same]
    rfl

/-! ### END -/

/-- END in a busy phase, field by field: TooShort off a frame boundary, and the end of the stream (R105, R140). -/
theorem endBeat_busy_eq {s : State} (hp : s.phase ≠ .idle) :
    endBeat s = endStreamNow { s with err := if endIsShort s then 1#3 else s.err } := by
  obtain ⟨s1, rfl, h⟩ := endBeat_cases s
  rw [startIfIdle_busy hp] at h
  obtain ⟨hshort, h⟩ | ⟨hshort, h⟩ := h
  · rw [h, hshort]
    rfl
  · rw [h, hshort]
    rfl

/-- END is short in every phase of parse mode but DRAIN, unless it stands at a frame boundary (R140, R191). -/
theorem endIsShort_iff {s : State} (hidle : s.phase ≠ .idle) (hraw : s.phase ≠ .raw) :
    endIsShort s = true ↔ ¬(s.phase = .drain ∨ atBoundary s) := by
  cases hp : s.phase <;> simp_all [endIsShort]

/-- Settles O28. -/
theorem endOffABoundaryIsTooShort : Obligations.EndOffABoundaryIsTooShort := by
  rintro s e hp rfl
  have hidle : (quietStream s).phase ≠ .idle := by
    intro h
    simp [show s.phase = .idle from h] at hp
  have hraw : (quietStream s).phase ≠ .raw := by
    intro h
    simp [show s.phase = .raw from h] at hp
  have code : (if endIsShort (quietStream s) then 1#3 else (quietStream s).err) =
      if s.phase = .drain ∨ (s.phase = .len ∧ s.cnt = 0#32) then s.err else 1#3 := by
    simp only [endIsShort_iff hidle hraw, ite_not]
    rfl
  rw [exec_endStream, endBeat_busy_eq hidle, code]
  rfl

/-- A stream in parse mode starts inside the preamble, or at a frame boundary where there is none (R131). -/
theorem endIsShort_startStream {s : State} (hparse : s.ctrlParse = true) : endIsShort (startStream s) = s.ctrlHdr := by
  obtain ⟨raw, -⟩ | ⟨-, hhdr, hp⟩ | ⟨-, hhdr, hp⟩ := startPhase_cases s
  · exact absurd (raw.symm.trans hparse) (by decide)
  · simp [endIsShort, hp, hhdr]
  · simp [endIsShort, hp, hhdr]

/-- Settles O29. END starts the stream and finds it inside the preamble, or at a frame boundary. -/
theorem emptyStreamVerdict : Obligations.EmptyStreamVerdict := by
  intro s hidle hparse
  have busy : (startStream (quietStream s)).phase ≠ .idle :=
    startIfIdle_startStream (quietStream s) ▸ startIfIdle_phase_ne_idle _
  have crc : startCrc (quietStream s) = s.crc := by simp [startCrc, hparse]
  rw [exec_endStream, endBeat_idle (s := quietStream s) hidle, endBeat_busy_eq busy,
    endIsShort_startStream (s := quietStream s) hparse, endStreamNow_eq, startStream, crc]
  rfl

end Sys2Proof.Proofs
end

section
/-! PROOF. Beats among steps: no beat, the start of a stream, DRAIN, the output events of one step and the moves of the
phase (R130, R131, R138, R141, R145). -/

namespace Sys2Proof.Proofs

open Sys2Proof.Machine

/-! ### No beat -/

/-- With `s_valid` 0 there is no beat (R71). -/
theorem decodeStream_of_noBeat {w : StreamWord} (h : w.getLsbD 9 = false) : decodeStream w = .sNop := by
  simp only [decodeStream, h]
  rfl

/-- A step without a beat and without an access emits nothing and leaves the twelve elements (R130, R170). -/
theorem step_of_noBeat {s : State} {w : StreamWord} {rest : List StepInput} (hw : w.getLsbD 9 = false)
    (hs : s.inputs = ⟨false, w, 0#38⟩ :: rest) :
    ∃ u, step s = .next u ∧ u.events = [] ∧ elements u = elements s ∧ u.inputs = rest := by
  refine ⟨{ s with hRdata := 0#32, events := [], inputs := rest }, ?_, rfl, rfl, rfl⟩
  rw [step_of_inputs hs, decodeStream_of_noBeat hw]
  rfl

/-- Settles O17, by induction on the number of steps. -/
theorem streamNopsHaveNoEffect : Obligations.StreamNopsHaveNoEffect := by
  refine ⟨fun _ => rfl, fun s ws rest noBeat hin => ?_⟩
  induction ws generalizing s with
  | nil => exact ⟨s, rfl, rfl, hin⟩
  | cons w ws ih =>
    obtain ⟨u, stepped, noEvent, same, left⟩ := step_of_noBeat (noBeat w List.mem_cons_self) hin
    obtain ⟨t, run, elems, ins⟩ := ih u (fun v hv => noBeat v (List.mem_cons_of_mem w hv)) left
    refine ⟨t, ?_, elems.trans same, ins⟩
    rw [List.length_cons, runSteps_of_step _ stepped, run, noEvent]
    rfl

/-! ### The start of a stream, and the CTRL bits -/

/-- The state with other CTRL bits. -/
def withCtrl (p h : Bool) (s : State) : State := { s with ctrlParse := p, ctrlHdr := h }

section Ctrl
variable (p h : Bool) (d : Byte) (s : State)

@[simp] theorem withCtrl_phase : (withCtrl p h s).phase = s.phase := rfl
@[simp] theorem withCtrl_cnt : (withCtrl p h s).cnt = s.cnt := rfl
@[simp] theorem withCtrl_len : (withCtrl p h s).len = s.len := rfl

theorem pushMagic_withCtrl : pushMagic d (withCtrl p h s) = withCtrl p h (pushMagic d s) := by
  simp only [pushMagic, apply_ite (withCtrl p h)]
  rfl

theorem pushLen_withCtrl : pushLen d (withCtrl p h s) = withCtrl p h (pushLen d s) := by
  simp only [pushLen, apply_ite (withCtrl p h)]
  rfl

theorem pushTyp_withCtrl : pushTyp d (withCtrl p h s) = withCtrl p h (pushTyp d s) := by
  by_cases hc : s.cnt = 3#32
  · by_cases hl : s.len = 0#32 <;> simp [pushTyp, hc, hl] <;> rfl
  · simp [pushTyp, hc]
    rfl

theorem pushPay_withCtrl : pushPay d (withCtrl p h s) = withCtrl p h (pushPay d s) := by
  simp only [pushPay, apply_ite (withCtrl p h)]
  rfl

theorem judgeFrame_withCtrl : judgeFrame (withCtrl p h s) = withCtrl p h (judgeFrame s) := by
  simp only [judgeFrame, apply_ite (withCtrl p h)]
  rfl

theorem pushCrcf_withCtrl : pushCrcf d (withCtrl p h s) = withCtrl p h (pushCrcf d s) := by
  by_cases hc : s.cnt = 3#32
  · have shifted : shiftCrcRx d (withCtrl p h s) = withCtrl p h (shiftCrcRx d s) := rfl
    rw [pushCrcf_last d hc, pushCrcf_last (s := withCtrl p h s) d hc, shifted, judgeFrame_withCtrl]
    rfl
  · rw [pushCrcf_inner d hc, pushCrcf_inner (s := withCtrl p h s) d hc]
    rfl

/-- In a stream that has started, PUSH reads no CTRL bit (R131). -/
theorem pushArm_withCtrl : pushArm d (withCtrl p h s) = withCtrl p h (pushArm d s) := by
  cases hp : s.phase <;> simp only [pushArm, withCtrl_phase, hp]
  case raw => rfl
  case magic => exact pushMagic_withCtrl p h d s
  case len => exact pushLen_withCtrl p h d s
  case typ => exact pushTyp_withCtrl p h d s
  case pay => exact pushPay_withCtrl p h d s
  case crcf => exact pushCrcf_withCtrl p h d s
  case drain => rfl

variable {s}

theorem pushBeat_withCtrl (hp : s.phase ≠ .idle) : pushBeat d (withCtrl p h s) = withCtrl p h (pushBeat d s) := by
  rw [pushBeat, pushBeat, startIfIdle_busy hp, startIfIdle_busy (s := withCtrl p h s) hp, pushArm_withCtrl]

/-- In a stream that has started, END reads no CTRL bit (R131). -/
theorem endBeat_withCtrl (hp : s.phase ≠ .idle) : endBeat (withCtrl p h s) = withCtrl p h (endBeat s) := by
  rw [endBeat_busy_eq hp, endBeat_busy_eq (s := withCtrl p h s) hp]
  rfl

end Ctrl

/-- Settles O18. From IDLE a beat acts on the started stream; in a busy phase it commutes with other CTRL bits. -/
theorem streamStartsUnderTheControlBits : Obligations.StreamStartsUnderTheControlBits := by
  constructor
  · intro s i hi hne hidle
    obtain rfl | ⟨d, rfl⟩ | rfl := stream_cases hi
    · exact absurd rfl hne
    · refine ⟨_, exec_push d s, ?_⟩
      rw [pushBeat_idle d (s := quietStream s) hidle]
      rfl
    · refine ⟨_, exec_endStream s, ?_⟩
      rw [endBeat_idle (s := quietStream s) hidle]
      rfl
  · intro s i p h hi hbusy
    obtain rfl | ⟨d, rfl⟩ | rfl := stream_cases hi
    · exact ⟨_, rfl, rfl⟩
    · exact ⟨_, exec_push d s, congrArg _ (pushBeat_withCtrl p h d (s := quietStream s) hbusy)⟩
    · exact ⟨_, exec_endStream s, congrArg _ (endBeat_withCtrl p h (s := quietStream s) hbusy)⟩

/-! ### DRAIN -/

/-- The run over a whole stream with the state it leaves in every field: its last step is END, which drives `h_rdata` 0 and
emits the last events (R58, R70). -/
theorem runSteps_stream_eq {bs : List Byte} {s : State} {rest : List StepInput}
    (hs : s.inputs = streamInputs bs ++ rest) :
    runSteps (bs.length + 1) s = some (reframe 0#32 [] rest (endBeat (elements (pushAll bs (elements s)))),
      (endBeat (pushAll bs (elements s))).events) := by
  obtain ⟨u, run, elems, ins⟩ :=
    runSteps_bytes (rest := aloneInput .endStream :: rest) (by rw [hs, streamInputs, List.append_assoc]; rfl)
  have ended := step_end_alone ins
  rw [quiet_eq_reframe, endBeat_reframe, elems] at ended
  rw [runSteps_add run (runSteps_of_step 0 ended), endBeat_events (pushAll bs (elements s))]
  simp

/-- END in DRAIN, field by field (R140, R199). -/
theorem endBeat_drain_eq {s : State} (hp : s.phase = .drain) : endBeat s = endStreamNow s := by
  have complete : endIsShort s = false := by simp [endIsShort, hp]
  rw [endBeat_busy_eq (by simp [hp]), complete]
  rfl

/-- Settles O25. A byte is the identity in DRAIN, so the run is its END alone. -/
theorem drainDiscardsUntilEnd : Obligations.DrainDiscardsUntilEnd := by
  refine ⟨fun s d hp => ?_, fun i s t hp he => ?_, fun s bs rest hp hin => ?_⟩
  · rw [exec_push, pushBeat_drain d (s := quietStream s) hp]
    rfl
  · obtain rst | stream | host := port_cases i
    · exact .inr (.inr (.inl rst))
    · obtain rfl | ⟨d, rfl⟩ | ended := stream_cases stream
      · cases he
        exact .inl hp
      · rw [exec_push, pushBeat_drain d (s := quietStream s) hp] at he
        cases he
        exact .inl hp
      · exact .inr (.inl ended)
    · obtain ⟨x, rfl | ⟨v, -, hidle, -⟩ | ⟨v, hi, clr, -⟩⟩ := exec_host_cases host he
      · exact .inl hp
      · exact absurd (hp.symm.trans hidle) (by decide)
      · exact .inr (.inr (.inr ⟨v, hi, clr⟩))
  · rw [runSteps_stream_eq hin, pushAll_drain (s := elements s) hp, endBeat_drain_eq (s := elements s) hp,
      endBeat_drain_eq (s := elements (elements s)) hp]
    rfl

/-! ### Output events -/

/-- A byte emits at most one event (R141). -/
theorem pushArm_events (d : Byte) (s : State) :
    ∃ es, es.length ≤ 1 ∧ (pushArm d s).events = s.events ++ es := by
  have quiet : ∃ es : List OutEvent, es.length ≤ 1 ∧ s.events = s.events ++ es := ⟨[], by simp, by simp⟩
  have one (e : OutEvent) : ∃ es : List OutEvent, es.length ≤ 1 ∧ s.events ++ [e] = s.events ++ es :=
    ⟨[e], by simp, rfl⟩
  cases hp : s.phase <;> simp only [pushArm, hp]
  case idle | raw | drain => exact quiet
  case magic =>
    obtain ⟨s1, rfl, ⟨-, -, h⟩ | ⟨-, -, h⟩ | ⟨-, h⟩⟩ := pushMagic_cases d s <;> rw [h] <;> exact quiet
  case len =>
    obtain ⟨-, h⟩ | ⟨-, h⟩ := pushLen_cases d s <;> rw [h] <;> exact quiet
  case typ =>
    obtain ⟨s1, rfl, ⟨-, -, h⟩ | ⟨-, -, h⟩ | ⟨-, h⟩⟩ := pushTyp_cases d s <;> rw [h]
    · exact one _
    · exact one _
    · exact quiet
  case pay =>
    obtain ⟨s1, rfl, ⟨-, h⟩ | ⟨-, h⟩⟩ := pushPay_cases d s <;> rw [h] <;> exact one _
  case crcf =>
    obtain ⟨s1, rfl, ⟨-, h⟩ | ⟨-, h⟩⟩ := pushCrcf_cases d s <;> rw [h]
    · rw [emit_events, judgeFrame_events]
      exact one _
    · exact quiet

/-- A stream operation emits at most one event (R141). -/
theorem exec_stream_events {i : Instr} (hi : i.port = .stream) {s t : State} (he : exec i s = .next t) :
    t.events.length ≤ 1 := by
  obtain rfl | ⟨d, rfl⟩ | rfl := stream_cases hi <;> cases he
  · simp
  · obtain ⟨es, hes, h⟩ := pushArm_events d (startIfIdle (quietStream s))
    rw [pushBeat, h]
    simpa using hes
  · simp [(endBeat_result (quietStream s)).2.2.2]

/-- As many strobes as events, where there is at most one (R70, R80). -/
theorem strobeCount_eq {s : State} (h : s.events.length ≤ 1) : strobeCount (outputPins s) = s.events.length := by
  simp only [strobeCount, outputPins]
  match s.events, h with
  | [], _ => rfl
  | [e], _ => cases e <;> rfl

/-- Settles O11. The events of a step are those of its stream operation, and a reset step has none. -/
theorem atMostOneEventAndOnlyFromABeat : Obligations.AtMostOneEventAndOnlyFromABeat := by
  intro s t hs
  suffices h : t.events.length ≤ 1 ∧ ((nextInput s).rst = true ∨ (nextInput s).s.getLsbD 9 = false → t.events = []) from
    ⟨h.1, strobeCount_eq h.1, h.2⟩
  simp only [step] at hs
  split at hs
  · cases hs
    exact ⟨by simp, fun _ => rfl⟩
  · rename_i noReset
    obtain ⟨u, -, beat⟩ := andThen_eq_next.mp hs
    refine ⟨exec_stream_events (decodeStream_port _) beat, fun quiet => ?_⟩
    rw [decodeStream_of_noBeat (quiet.resolve_left noReset)] at beat
    cases beat
    rfl

/-! ### The moves of the phase -/

/-- The moves a byte makes between two busy phases (R145). -/
def busyMoves : List (Phase × Phase) :=
  [(.magic, .len), (.magic, .drain), (.len, .typ), (.typ, .crcf), (.typ, .pay), (.pay, .crcf), (.crcf, .len),
   (.crcf, .drain)]

/-- A byte keeps the phase or moves it along the table (R145). -/
theorem pushArm_phase (d : Byte) (s : State) :
    (pushArm d s).phase = s.phase ∨ (s.phase, (pushArm d s).phase) ∈ busyMoves := by
  cases hp : s.phase <;> simp only [pushArm, hp]
  case idle => exact .inl trivial
  case raw | drain => exact .inl hp
  case magic =>
    obtain ⟨s1, rfl, ⟨-, -, e⟩ | ⟨-, -, e⟩ | ⟨-, e⟩⟩ := pushMagic_cases d s <;> simp [e, hp, busyMoves]
  case len =>
    obtain ⟨-, e⟩ | ⟨-, e⟩ := pushLen_cases d s <;> simp [e, hp, busyMoves]
  case typ =>
    obtain ⟨s1, rfl, ⟨-, -, e⟩ | ⟨-, -, e⟩ | ⟨-, e⟩⟩ := pushTyp_cases d s <;> simp [e, hp, busyMoves]
  case pay =>
    obtain ⟨s1, rfl, ⟨-, e⟩ | ⟨-, e⟩⟩ := pushPay_cases d s <;> simp [e, hp, busyMoves]
  case crcf =>
    obtain ⟨s1, rfl, ⟨-, e⟩ | ⟨-, e⟩⟩ := pushCrcf_cases d s
    · obtain next | next := judgeFrame_phase (shiftCrcRx d s) <;> simp [e, next, busyMoves]
    · simp [e, hp]

/-- The first byte of a stream stays in the phase the stream starts in (R131, R145). -/
theorem pushBeat_idle_phase (d : Byte) {s : State} (hp : s.phase = .idle) : (pushBeat d s).phase = startPhase s := by
  rw [pushBeat_idle d hp]
  obtain ⟨-, start⟩ | ⟨-, -, start⟩ | ⟨-, -, start⟩ := startPhase_cases s
  · rw [pushBeat_raw d (s := startStream s) start, feedCrc_phase, startStream_phase]
  · exact (pushBeat_partField d (by simp [start, fieldBytes])).1
  · exact (pushBeat_partField d (by simp [start, fieldBytes])).1

/-- Settles O30. From IDLE a byte moves to the phase the stream starts in, from a busy phase along the other rows. -/
theorem phaseMovesOnlyAlongTheTable : Obligations.PhaseMovesOnlyAlongTheTable := by
  intro i s t he moved
  obtain rfl | stream | host := port_cases i
  · cases he
    exact .inr ⟨rfl, .inr (.inl rfl)⟩
  · obtain rfl | ⟨d, rfl⟩ | rfl := stream_cases stream <;> cases he
    · exact absurd rfl moved
    · refine .inl ⟨d, rfl, ?_⟩
      by_cases hp : s.phase = .idle
      · rw [pushBeat_idle_phase d (s := quietStream s) hp, hp]
        obtain ⟨-, start⟩ | ⟨-, -, start⟩ | ⟨-, -, start⟩ := startPhase_cases (quietStream s) <;> simp [start]
      · rw [pushBeat, startIfIdle_busy (s := quietStream s) hp] at moved ⊢
        have busy : (s.phase, (pushArm d (quietStream s)).phase) ∈ busyMoves :=
          (pushArm_phase d (quietStream s)).resolve_left moved
        exact List.mem_append_right [(.idle, .raw), (.idle, .magic), (.idle, .len)] busy
    · exact .inr ⟨(endBeat_result _).1, .inl rfl⟩
  · obtain ⟨x, rfl | ⟨v, -, -, rfl⟩ | ⟨v, hi, clr, rfl⟩⟩ := exec_host_cases host he
    · exact absurd rfl moved
    · exact absurd rfl moved
    · exact .inr ⟨rfl, .inr (.inr ⟨v, hi, clr⟩)⟩

end Sys2Proof.Proofs
end

section
/-! PROOF. The host port, access by access: no access, the reads of CTRL, CMD, the datapath words and the reserved words,
and the three kinds of write (R170 to R183). -/

namespace Sys2Proof.Proofs

open Sys2Proof.Machine

/-! ### No access, and the reads -/

/-- Settles O36. -/
theorem hostNopDrivesZero : Obligations.HostNopDrivesZero := fun _ => rfl

/-- Above weight 0 a bit as a word is 0 (R9). -/
theorem zextBit_getLsbD_of_pos (b : Bool) {n : Nat} (hn : 0 < n) : (zextBit b).getLsbD n = false := by
  have bit : (BitVec.ofBool b).getLsbD n = false := BitVec.getLsbD_of_ge _ _ hn
  rw [zextBit, BitVec.getLsbD_setWidth, bit, Bool.and_false]

/-- The bits of CTRL above PARSE and HDR read as 0 (R172). -/
theorem ctrlWord_reserved (s : State) : (ctrlWord s).extractLsb' 2 30 = 0#30 := by
  ext i hi
  have parse := zextBit_getLsbD_of_pos s.ctrlParse (n := 2 + i) (by omega)
  have hdr := zextBit_getLsbD_of_pos s.ctrlHdr (n := 1 + i) (by omega)
  simp [ctrlWord, parse, hdr]

/-- CMD and the reserved words read as 0 (R173, R180). -/
theorem regRead_of_noElement {a : RegAddr} (h : a = 1#4 ∨ 8#4 < a) (s : State) : regRead a s = 0#32 := by
  obtain rfl | reserved := h
  · rfl
  · have above : 8 < a.toNat := reserved
    unfold regRead
    split
    case h_10 => rfl
    all_goals omega

theorem exec_decodeRead_of_noElement {a : RegAddr} (h : a = 1#4 ∨ 8#4 < a) (s : State) :
    exec (decodeRead a) s = .next { s with hRdata := 0#32 } := by
  rw [exec_decodeRead, readAccess_eq, regRead_of_noElement h]

/-- The words that show no element: CMD and the reserved words (R33). -/
def noElementWords : List RegAddr := [1#4, 9#4, 10#4, 11#4, 12#4, 13#4, 14#4, 15#4]

theorem eq_one_or_gt_of_mem_noElementWords : ∀ a ∈ noElementWords, a = 1#4 ∨ 8#4 < a := by decide

/-- Settles O37. The eight operations of the second part are the reads of `noElementWords`. -/
theorem readsOfControlAndReservedWords : Obligations.ReadsOfControlAndReservedWords := by
  intro s
  have zero : ∀ i ∈ noElementWords.map decodeRead, exec i s = .next { s with hRdata := 0#32 } :=
    List.forall_mem_map.mpr fun a ha => exec_decodeRead_of_noElement (eq_one_or_gt_of_mem_noElementWords a ha) s
  exact ⟨⟨ctrlWord s, exec_decodeRead 0#4 s, ctrlWord_getLsbD_zero s, ctrlWord_getLsbD_one s, ctrlWord_reserved s⟩, zero⟩

/-- Settles O38. The words 3 to 8 are the elements, CRC_CALC with the final XOR. -/
theorem readsOfDatapathWords : Obligations.ReadsOfDatapathWords := fun s =>
  ⟨exec_decodeRead 3#4 s, exec_decodeRead 4#4 s, exec_decodeRead 5#4 s, exec_decodeRead 6#4 s, exec_decodeRead 7#4 s,
    exec_decodeRead 8#4 s⟩

/-! ### The writes -/

theorem exec_wrCtrl (v : Word) (s : State) : exec (.wrCtrl v) s = .next (driveRdata 0#32 (writeCtrl v s)) := rfl

theorem exec_wrCmd (v : Word) (s : State) : exec (.wrCmd v) s = .next (driveRdata 0#32 (writeCmd v s)) := rfl

/-- Settles O41. -/
theorem controlWriteOnlyWhileIdle : Obligations.ControlWriteOnlyWhileIdle := by
  intro s v
  rw [exec_wrCtrl]
  obtain ⟨idle, taken⟩ | ⟨busy, ignored⟩ := writeCtrl_cases v s
  · rw [taken]
    exact ⟨fun _ => rfl, fun busy => absurd idle busy⟩
  · rw [ignored]
    exact ⟨fun idle => absurd idle busy, fun _ => rfl⟩

/-- Settles O42. -/
theorem commandWriteClears : Obligations.CommandWriteClears := by
  intro s v
  rw [exec_wrCmd]
  obtain ⟨clr, cleared⟩ | ⟨noClr, ignored⟩ := writeCmd_cases v s
  · rw [cleared, if_pos clr]
    rfl
  · rw [ignored, if_neg (ne_true_of_eq_false noClr)]
    rfl

/-- A write of any word but CTRL and CMD is ignored (R183). -/
theorem regWrite_of_ignored {a : RegAddr} (hctrl : a ≠ 0#4) (hcmd : a ≠ 1#4) (v : Word) (s : State) :
    regWrite a v s = s := by
  obtain ⟨ctrl, -⟩ | ⟨cmd, -⟩ | ⟨-, -, ignored⟩ := regWrite_cases a v s
  · exact absurd ctrl hctrl
  · exact absurd cmd hcmd
  · exact ignored

theorem exec_decodeWrite_of_ignored {a : RegAddr} (hctrl : a ≠ 0#4) (hcmd : a ≠ 1#4) (v : Word) (s : State) :
    exec (decodeWrite a v) s = .next { s with hRdata := 0#32 } := by
  rw [exec_decodeWrite, writeAccess, regWrite_of_ignored hctrl hcmd]
  rfl

/-- The words whose writes are ignored: the read-only and the reserved words (R183). -/
def ignoredWords : List RegAddr := [2#4, 3#4, 4#4, 5#4, 6#4, 7#4, 8#4, 9#4, 10#4, 11#4, 12#4, 13#4, 14#4, 15#4]

theorem ne_of_mem_ignoredWords : ∀ a ∈ ignoredWords, a ≠ 0#4 ∧ a ≠ 1#4 := by decide

/-- Settles O43. The fourteen operations are the writes of `ignoredWords`. -/
theorem otherWritesAreIgnored : Obligations.OtherWritesAreIgnored := by
  intro s v
  have ignored : ∀ i ∈ ignoredWords.map (decodeWrite · v), exec i s = .next { s with hRdata := 0#32 } := by
    refine List.forall_mem_map.mpr fun a ha => ?_
    obtain ⟨hctrl, hcmd⟩ := ne_of_mem_ignoredWords a ha
    exact exec_decodeWrite_of_ignored hctrl hcmd v s
  exact ignored

end Sys2Proof.Proofs
end

section
/-! PROOF. The recorded error: which operations keep it, and which beat records which code (R29, R190 to R194, R199, R200). -/

namespace Sys2Proof.Proofs

open Sys2Proof.Machine

/-! ### Operations that keep or clear the error -/

/-- A host operation keeps the recorded error, unless it is CLR (R56, R200). -/
theorem exec_host_err {i : Instr} (hi : i.port = .host) {s t : State} (he : exec i s = .next t) :
    t.err = s.err ∨ (t.err = 0#3 ∧ ∃ v : Word, i = .wrCmd v ∧ v.getLsbD 0 = true) := by
  obtain ⟨x, rfl | ⟨v, -, -, rfl⟩ | ⟨v, hcmd, clr, rfl⟩⟩ := exec_host_cases hi he
  · exact .inl rfl
  · exact .inl rfl
  · exact .inr ⟨rfl, v, hcmd, clr⟩

/-- A stream operation in DRAIN keeps the recorded error: bytes are discarded, and END raises nothing (R138, R140, R199). -/
theorem exec_stream_drain_err {i : Instr} (hi : i.port = .stream) {s t : State} (hp : s.phase = .drain)
    (he : exec i s = .next t) : t.err = s.err := by
  obtain rfl | ⟨d, rfl⟩ | rfl := stream_cases hi <;> cases he
  · rfl
  · rw [pushBeat_drain d (s := quietStream s) hp, quietStream_err]
  · exact (endBeat_drain (s := quietStream s) hp).1

/-- Settles O31. -/
theorem recordedErrorIsKept : Obligations.RecordedErrorIsKept := by
  intro i s t he kept
  obtain rst | stream | host := port_cases i
  · exact .inr (.inl rst)
  · obtain drain | ⟨-, offStream⟩ := kept
    · exact .inl (exec_stream_drain_err stream drain he)
    · exact absurd stream offStream
  · exact (exec_host_err host he).imp_right fun ⟨_, clr⟩ => .inr clr

/-! ### The beats that record an error -/

/-- A byte taken in state `s` records the error of state `t`: BadMagic at the eighth preamble byte, InvalidType or
ChecksumMismatch at the fourth checksum byte, and then DRAIN (R192 to R194, R197). -/
def ByteRaises (s t : State) : Prop :=
  t.phase = .drain ∧
    ((t.err = 2#3 ∧ s.phase = .magic ∧ s.cnt = 7#32 ∧ t.mbad = true) ∨
     (t.err = 3#3 ∧ s.phase = .crcf ∧ s.cnt = 3#32 ∧ tvalid s.typ = false) ∨
     (t.err = 4#3 ∧ s.phase = .crcf ∧ s.cnt = 3#32 ∧ tvalid s.typ = true ∧ t.crcRx ≠ calcOf t))

/-- No first byte of a field records an error. -/
theorem ByteRaises.cnt_ne_zero {s t : State} (h : ByteRaises s t) : s.cnt ≠ 0#32 := by
  obtain ⟨-, ⟨-, -, hc, -⟩ | ⟨-, -, hc, -⟩ | ⟨-, -, hc, -⟩⟩ := h <;> simp [hc]

section Bytes
variable (d : Byte) {s : State}

theorem pushMagic_err (hp : s.phase = .magic) :
    (pushMagic d s).err = s.err ∨ ByteRaises s (pushMagic d s) := by
  obtain ⟨s1, rfl, ⟨hc, bad, e⟩ | ⟨-, -, e⟩ | ⟨-, e⟩⟩ := pushMagic_cases d s <;> rw [e]
  · exact .inr ⟨rfl, .inl ⟨rfl, hp, hc, bad⟩⟩
  · exact .inl rfl
  · exact .inl rfl

theorem pushCrcf_err (hp : s.phase = .crcf) :
    (pushCrcf d s).err = s.err ∨ ByteRaises s (pushCrcf d s) := by
  obtain ⟨s1, rfl, ⟨hc, e⟩ | ⟨-, e⟩⟩ := pushCrcf_cases d s <;> rw [e]
  · obtain ⟨badType, j⟩ | ⟨validType, badSum, j⟩ | ⟨-, -, j⟩ := judgeFrame_cases (shiftCrcRx d s) <;> rw [j]
    · exact .inr ⟨rfl, .inr (.inl ⟨rfl, hp, hc, badType⟩)⟩
    · exact .inr ⟨rfl, .inr (.inr ⟨rfl, hp, hc, validType, badSum⟩)⟩
    · exact .inl rfl
  · exact .inl rfl

/-- A byte keeps `err` in every phase but MAGIC and CRCF, and there it may record an error (R132 to R138). -/
theorem pushArm_err : (pushArm d s).err = s.err ∨ ByteRaises s (pushArm d s) := by
  cases hp : s.phase <;> simp only [pushArm, hp]
  case idle => exact .inl trivial
  case raw | drain => exact .inl rfl
  case magic => exact pushMagic_err d hp
  case len =>
    obtain ⟨-, e⟩ | ⟨-, e⟩ := pushLen_cases d s <;> exact .inl (by simp [e])
  case typ =>
    obtain ⟨s1, rfl, ⟨-, -, e⟩ | ⟨-, -, e⟩ | ⟨-, e⟩⟩ := pushTyp_cases d s <;> exact .inl (by simp [e])
  case pay =>
    obtain ⟨s1, rfl, ⟨-, e⟩ | ⟨-, e⟩⟩ := pushPay_cases d s <;> exact .inl (by simp [e])
  case crcf => exact pushCrcf_err d hp

/-- PUSH leaves `err` as it finds it after the start, or records an error; the byte that starts a stream records none
(R131, R132). -/
theorem pushBeat_err :
    (pushBeat d s).err = (startIfIdle s).err ∨ ByteRaises s (pushBeat d s) := by
  rw [pushBeat]
  refine (pushArm_err d).imp_right fun raised => ?_
  obtain ⟨-, start⟩ | ⟨-, busy⟩ := startIfIdle_cases s
  · rw [start] at raised
    exact absurd (startStream_cnt s) raised.cnt_ne_zero
  · rwa [busy] at raised ⊢

end Bytes

/-- The start of a stream records no error (R131). -/
theorem startIfIdle_err (s : State) : (startIfIdle s).err = s.err ∨ (startIfIdle s).err = 0#3 := by
  obtain ⟨-, e⟩ | ⟨-, e⟩ := startIfIdle_cases s <;> simp [e]

/-- END records TooShort or leaves `err` as it finds it after the start (R140, R191). -/
theorem endBeat_err (s : State) : (endBeat s).err = (startIfIdle s).err ∨ (endBeat s).err = 1#3 := by
  obtain ⟨s1, rfl, ⟨-, e⟩ | ⟨-, e⟩⟩ := endBeat_cases s <;> rw [e]
  · exact .inr rfl
  · exact .inl rfl

/-- Settles O32. A new code can come from a byte that raises or from END only: all else keeps `err` or leaves 0 in it. -/
theorem eachErrorHasItsOwnCause : Obligations.EachErrorHasItsOwnCause := by
  intro i s t _ he changed nonzero
  have fromStart : t.err ≠ (startIfIdle (quietStream s)).err := fun h =>
    (startIfIdle_err (quietStream s)).elim (fun old => changed (h.trans old)) (fun zero => nonzero (h.trans zero))
  obtain rfl | stream | host := port_cases i
  · cases he
    exact absurd rfl nonzero
  · obtain rfl | ⟨d, rfl⟩ | rfl := stream_cases stream <;> cases he
    · exact absurd rfl changed
    · obtain ⟨drain, cause⟩ : ByteRaises s (pushBeat d (quietStream s)) := (pushBeat_err d).resolve_left fromStart
      exact .inr ⟨drain, d, rfl, cause⟩
    · exact .inl ⟨(endBeat_err _).resolve_left fromStart, rfl, (endBeat_result _).1⟩
  · obtain same | ⟨zero, -⟩ := exec_host_err host he
    · exact absurd same changed
    · exact absurd zero nonzero

end Sys2Proof.Proofs
end

section
/-! PROOF. A reset step: the reset pin decides alone, before either port word is decoded (R73, R220). -/

namespace Sys2Proof.Proofs

open Sys2Proof.Machine

/-- RST always answers with the reset values (R220). -/
theorem exec_rst (s : State) : exec .rst s = .next (resetAll s) := rfl

/-- A step with known port words and the reset pin at 1 (R73). -/
theorem step_of_reset {s : State} {w : StreamWord} {h : HostWord} {rest : List StepInput}
    (hs : s.inputs = ⟨true, w, h⟩ :: rest) : step s = .next (resetAll { s with inputs := rest }) := by
  simp [step, nextInput, dropInput, hs, exec_rst]

/-- Settles O1. Both runs are RST, and `resetAll` has the listed reset values. -/
theorem resetStepSetsEveryElement : Obligations.ResetStepSetsEveryElement :=
  fun s _ _ _ => ⟨step_of_reset rfl, exec_rst s⟩

end Sys2Proof.Proofs
end
